-- ==== Sys2Proof/Word.lean ====
section
/-! DEFINITION. The words of the block: bytes, 11-bit frames, 16-bit HID usages (00_scope R7). -/

namespace Sys2Proof

/-- A u8 of the source's data model (R7). -/
abbrev Byte := BitVec 8

/-- An 11-bit PS/2 frame: start, eight data bits LSB first, odd parity, stop (R141). -/
abbrev Frame := BitVec 11

/-- A u16 HID usage or usage page (R48). -/
abbrev Usage := BitVec 16

end Sys2Proof
end

