-- ==== Sys2Proof/Machine/Flags.lean ====
section
/-! DEFINITION. The flag computations: the parity bit a frame is sent with and the parity flag a
received frame is accepted by (R200, R201), and the pending flag of the mouse tick (R412). -/

namespace Sys2Proof.Machine

/-- `popcount(b)`: the number of 1 bits of b (R11). -/
def popcount (b : Byte) : Nat := (List.range 8).countP (fun i => b.getLsbD i)

/-- The parity bit of the frame of b: 1 when b has an even number of 1 bits (R200). -/
def oddParityBit (b : Byte) : Bool := popcount b % 2 == 0

/-- `parityOk`: the data bits and the parity bit together hold an odd number of 1 bits (R201). -/
def parityFlag (b : Byte) (p : Bool) : Bool := (popcount b + p.toNat) % 2 == 1

/-- `pending`: some movement accumulator is not 0 (R412). -/
def movementPending (accDx accDy : BitVec 16) (accWheel : BitVec 8) : Bool :=
  accDx != 0 || accDy != 0 || accWheel != 0

end Sys2Proof.Machine
end

