-- ==== Sys2Proof/Machine/Frame.lean ====
section
/-! DEFINITION. The bit-frame codec: `encodeFrame` (R200) and `decodeFrame` (R201), two pure
functions (R203). -/

namespace Sys2Proof.Machine

/-- `encodeFrame(b)` (R200): stop 1, parity, the byte, start 0. -/
def encodeFrame (b : Byte) : Frame :=
  (1#11 <<< 10) ||| ((BitVec.ofBool (oddParityBit b)).setWidth 11 <<< 9) ||| (b.setWidth 11 <<< 1)

/-- `decodeFrame(raw) = (b, parityOk)` (R201): frame bits 8:1 and the parity check over bits 9:1.
Start and stop bits are not read. -/
def decodeFrame (raw : Frame) : Byte × Bool :=
  let b := raw.extractLsb' 1 8
  (b, parityFlag b (raw.getLsbD 9))

end Sys2Proof.Machine
end

