-- ==== Sys2Proof/Config.lean ====
section
/-! DEFINITION. What an implementation fixes: the parameters that 00_scope R6 marks OPEN and
93_implementation_defined section 1 treats as "parameter: the model takes the value as an argument".
They are plain data, held in `State.cfg` and never written by a step (log 2), so that a statement over
all states is a statement over all their values. The defaults are in Machine/Tables.lean. -/

namespace Sys2Proof

/-- One entry of the Set 2 table or of the modifier table: the 0xE0 prefix flag and the code
(R441, R450). -/
structure KeyCode where
  ext  : Bool
  code : Byte
deriving DecidableEq, Repr

/-- The OPEN parameters of R6 (DEVICE_MAX, BACKOFF_US, the tables, ...) and QUEUE_CAP, which
93 section 1 also treats as a parameter. -/
structure Params where
  /-- BACKOFF_US (D11). -/
  backoffUs : Nat
  /-- QUEUE_CAP, packets per port (D9). -/
  queueCap : Nat
  /-- DEVICE_MAX, HID instances (D33). -/
  deviceMax : Nat
  /-- MOUSE_RESET_DELAY_MS (D63). -/
  mouseResetDelayMs : Nat
  /-- TYPEMATIC_INTERVAL_US (R470, D60). -/
  typematicIntervalUs : Vector Nat 32
  /-- TYPEMATIC_DELAY_MS (R471, D61). -/
  typematicDelayMs : Vector Nat 4
  /-- SC2_TABLE: HID usage to Set 2 code (R441, D62). -/
  sc2Table : List (Byte × KeyCode)
  /-- MOD_TABLE by modifier bit (R450, D62). -/
  modTable : Vector KeyCode 8
  /-- LED_TABLE by the low three parameter bits (R460, D62). -/
  ledTable : Vector Byte 8
  /-- MOUSE_STATUS_REPLY (R421, D75). -/
  mouseStatusReply : Vector Byte 4
  /-- MODIFIER_TYPEMATIC (R351, D47). -/
  modifierTypematic : Bool
  /-- POWER_ON_BAT (R551, D7). -/
  powerOnBat : Bool
deriving DecidableEq, Repr

end Sys2Proof
end

