-- ==== Sys2Proof/Machine/Tables.lean ====
section
/-! DEFINITION. The block's constants (R6) and the default tables (45_keyboard_tables), the values every
vector of 95_test_vectors uses. The table contents are [from general knowledge, not in source] except
usages 0x04 and 0x50 (R441): log 19. -/

namespace Sys2Proof.Machine

/-- PACKET_MAX, data bytes per packet (R6). -/
abbrev packetMax : Nat := 8
/-- REPORT_MAX, ReportDescriptors per instance (R6). -/
abbrev reportMax : Nat := 8
/-- FIELD_MAX, fields per ReportDescriptor (R6). -/
abbrev fieldMax : Nat := 32
/-- KEY_ARRAY_MAX, array keys per instance (R6). -/
abbrev keyArrayMax : Nat := 6
/-- KBD_RESET_DELAY_MS (R6). -/
abbrev kbdResetDelayMs : Nat := 500
/-- The delay index of TYPEMATIC_DEFAULT (R6, R472). -/
abbrev typematicDefaultDelay : Fin 4 := 1
/-- The rate index of TYPEMATIC_DEFAULT (R6, R472). -/
abbrev typematicDefaultRate : Fin 32 := 0x0B
/-- SAMPLE_RATE_DEFAULT in Hz (R6, D78). -/
abbrev sampleRateDefault : Byte := 100#8

/-- SC2_TABLE (R441), usages 0x04 to 0x1C. -/
def sc2Part1 : List (Byte × KeyCode) := [
  (0x04#8, ⟨false, 0x1C#8⟩), (0x05#8, ⟨false, 0x32#8⟩), (0x06#8, ⟨false, 0x21#8⟩), (0x07#8, ⟨false, 0x23#8⟩),
  (0x08#8, ⟨false, 0x24#8⟩), (0x09#8, ⟨false, 0x2B#8⟩), (0x0A#8, ⟨false, 0x34#8⟩), (0x0B#8, ⟨false, 0x33#8⟩),
  (0x0C#8, ⟨false, 0x43#8⟩), (0x0D#8, ⟨false, 0x3B#8⟩), (0x0E#8, ⟨false, 0x42#8⟩), (0x0F#8, ⟨false, 0x4B#8⟩),
  (0x10#8, ⟨false, 0x3A#8⟩), (0x11#8, ⟨false, 0x31#8⟩), (0x12#8, ⟨false, 0x44#8⟩), (0x13#8, ⟨false, 0x4D#8⟩),
  (0x14#8, ⟨false, 0x15#8⟩), (0x15#8, ⟨false, 0x2D#8⟩), (0x16#8, ⟨false, 0x1B#8⟩), (0x17#8, ⟨false, 0x2C#8⟩),
  (0x18#8, ⟨false, 0x3C#8⟩), (0x19#8, ⟨false, 0x2A#8⟩), (0x1A#8, ⟨false, 0x1D#8⟩), (0x1B#8, ⟨false, 0x22#8⟩),
  (0x1C#8, ⟨false, 0x35#8⟩)]

/-- SC2_TABLE (R441), usages 0x1D to 0x35. -/
def sc2Part2 : List (Byte × KeyCode) := [
  (0x1D#8, ⟨false, 0x1A#8⟩), (0x1E#8, ⟨false, 0x16#8⟩), (0x1F#8, ⟨false, 0x1E#8⟩), (0x20#8, ⟨false, 0x26#8⟩),
  (0x21#8, ⟨false, 0x25#8⟩), (0x22#8, ⟨false, 0x2E#8⟩), (0x23#8, ⟨false, 0x36#8⟩), (0x24#8, ⟨false, 0x3D#8⟩),
  (0x25#8, ⟨false, 0x3E#8⟩), (0x26#8, ⟨false, 0x46#8⟩), (0x27#8, ⟨false, 0x45#8⟩), (0x28#8, ⟨false, 0x5A#8⟩),
  (0x29#8, ⟨false, 0x76#8⟩), (0x2A#8, ⟨false, 0x66#8⟩), (0x2B#8, ⟨false, 0x0D#8⟩), (0x2C#8, ⟨false, 0x29#8⟩),
  (0x2D#8, ⟨false, 0x4E#8⟩), (0x2E#8, ⟨false, 0x55#8⟩), (0x2F#8, ⟨false, 0x54#8⟩), (0x30#8, ⟨false, 0x5B#8⟩),
  (0x31#8, ⟨false, 0x5D#8⟩), (0x32#8, ⟨false, 0x5D#8⟩), (0x33#8, ⟨false, 0x4C#8⟩), (0x34#8, ⟨false, 0x52#8⟩),
  (0x35#8, ⟨false, 0x0E#8⟩)]

/-- SC2_TABLE (R441), usages 0x36 to 0x4F. -/
def sc2Part3 : List (Byte × KeyCode) := [
  (0x36#8, ⟨false, 0x41#8⟩), (0x37#8, ⟨false, 0x49#8⟩), (0x38#8, ⟨false, 0x4A#8⟩), (0x39#8, ⟨false, 0x58#8⟩),
  (0x3A#8, ⟨false, 0x05#8⟩), (0x3B#8, ⟨false, 0x06#8⟩), (0x3C#8, ⟨false, 0x04#8⟩), (0x3D#8, ⟨false, 0x0C#8⟩),
  (0x3E#8, ⟨false, 0x03#8⟩), (0x3F#8, ⟨false, 0x0B#8⟩), (0x40#8, ⟨false, 0x83#8⟩), (0x41#8, ⟨false, 0x0A#8⟩),
  (0x42#8, ⟨false, 0x01#8⟩), (0x43#8, ⟨false, 0x09#8⟩), (0x44#8, ⟨false, 0x78#8⟩), (0x45#8, ⟨false, 0x07#8⟩),
  (0x46#8, ⟨true, 0x7C#8⟩), (0x47#8, ⟨false, 0x7E#8⟩), (0x49#8, ⟨true, 0x70#8⟩), (0x4A#8, ⟨true, 0x6C#8⟩),
  (0x4B#8, ⟨true, 0x7D#8⟩), (0x4C#8, ⟨true, 0x71#8⟩), (0x4D#8, ⟨true, 0x69#8⟩), (0x4E#8, ⟨true, 0x7A#8⟩),
  (0x4F#8, ⟨true, 0x74#8⟩)]

/-- SC2_TABLE (R441), usages 0x50 to 0x67. -/
def sc2Part4 : List (Byte × KeyCode) := [
  (0x50#8, ⟨true, 0x6B#8⟩), (0x51#8, ⟨true, 0x72#8⟩), (0x52#8, ⟨true, 0x75#8⟩), (0x53#8, ⟨false, 0x77#8⟩),
  (0x54#8, ⟨true, 0x4A#8⟩), (0x55#8, ⟨false, 0x7C#8⟩), (0x56#8, ⟨false, 0x7B#8⟩), (0x57#8, ⟨false, 0x79#8⟩),
  (0x58#8, ⟨true, 0x5A#8⟩), (0x59#8, ⟨false, 0x69#8⟩), (0x5A#8, ⟨false, 0x72#8⟩), (0x5B#8, ⟨false, 0x7A#8⟩),
  (0x5C#8, ⟨false, 0x6B#8⟩), (0x5D#8, ⟨false, 0x73#8⟩), (0x5E#8, ⟨false, 0x74#8⟩), (0x5F#8, ⟨false, 0x6C#8⟩),
  (0x60#8, ⟨false, 0x75#8⟩), (0x61#8, ⟨false, 0x7D#8⟩), (0x62#8, ⟨false, 0x70#8⟩), (0x63#8, ⟨false, 0x71#8⟩),
  (0x64#8, ⟨false, 0x61#8⟩), (0x65#8, ⟨true, 0x2F#8⟩), (0x66#8, ⟨true, 0x37#8⟩), (0x67#8, ⟨false, 0x0F#8⟩)]

/-- SC2_TABLE (R441): 99 entries. -/
def sc2Default : List (Byte × KeyCode) :=
  sc2Part1 ++ sc2Part2 ++ sc2Part3 ++ sc2Part4

/-- MOD_TABLE (R450). -/
def modDefault : Vector KeyCode 8 := #v[
  ⟨false, 0x14#8⟩, ⟨false, 0x12#8⟩, ⟨false, 0x11#8⟩, ⟨true, 0x1F#8⟩,
  ⟨true, 0x14#8⟩, ⟨false, 0x59#8⟩, ⟨true, 0x11#8⟩, ⟨true, 0x27#8⟩]

/-- LED_TABLE (R460). -/
def ledDefault : Vector Byte 8 :=
  #v[0x00#8, 0x04#8, 0x01#8, 0x05#8, 0x02#8, 0x06#8, 0x03#8, 0x07#8]

/-- TYPEMATIC_INTERVAL_US (R470). -/
def intervalDefault : Vector Nat 32 := #v[
  33333, 37453, 41667, 45872, 50000, 54054, 58480, 62500,
  66667, 75188, 83333, 91743, 100000, 108696, 116279, 125000,
  133333, 149254, 166667, 181818, 200000, 217391, 232558, 250000,
  270270, 303030, 333333, 370370, 400000, 434783, 476190, 500000]

/-- TYPEMATIC_DELAY_MS (R471). -/
def delayDefault : Vector Nat 4 := #v[250, 500, 750, 1000]

/-- PAUSE_SEQ (R455). -/
def pauseSeq : List Byte := [0xE1#8, 0x14#8, 0x77#8, 0xE1#8, 0xF0#8, 0x14#8, 0xF0#8, 0x77#8]

/-- BREAK_SEQ (R455). -/
def breakKeySeq : List Byte := [0xE0#8, 0x7E#8, 0xE0#8, 0xF0#8, 0x7E#8]

/-- The defaults of R6. -/
def defaultParams : Params where
  backoffUs := 1000
  queueCap := 8
  deviceMax := 4
  mouseResetDelayMs := 500
  typematicIntervalUs := intervalDefault
  typematicDelayMs := delayDefault
  sc2Table := sc2Default
  modTable := modDefault
  ledTable := ledDefault
  mouseStatusReply := #v[0xFA#8, 0x00#8, 0x02#8, 0x64#8]
  modifierTypematic := false
  powerOnBat := false

end Sys2Proof.Machine
end

