-- ==== Sys2Proof/Syntax.lean ====
section
/-! DEFINITION. The instructions: one constructor per row of spec/opcode_table.json, in the table's order.
Operand types carry what the row's encoding carries (30_encoding). -/

namespace Sys2Proof

/-- The two PS/2 ports: port 0 is the keyboard port, port 1 the mouse port (R35, R101). -/
inductive Port where
  | kbd | mouse
deriving DecidableEq, Repr

/-- The data of a HID short item, by its size code: 0, 1, 2 or 4 bytes, assembled little-endian
(R152, R155). -/
inductive ItemData where
  | none
  | b1 (v : BitVec 8)
  | b2 (v : BitVec 16)
  | b4 (v : BitVec 32)
deriving DecidableEq, Repr

/-- Where an encoded instruction is read, which decides its meaning (R143, R152): the codec; a received
11-bit frame of a port, after the host byte `prev`; a host byte of a port, after `prev`; a report
descriptor. -/
inductive Source where
  | codec
  | wire (p : Port) (prev : Byte)
  | host (p : Port) (prev : Byte)
  | descriptor
deriving DecidableEq, Repr

/-- The instruction set: host bytes and parameters of both ports, descriptor items, the frame, and the
entry points of R140. -/
inductive Instr where
  /-- FRAME, 11-bit word: R200; the frame format, as an 11-bit word given to the codec. -/
  | frame (raw : Frame)
  /-- HOST_RESEND, host byte 0xFE: R237; a host byte 0xFE with correct parity on port p. -/
  | hostResend (p : Port)
  /-- HOST_BYTE_PARITY_ERROR, 11-bit word: R236; a received frame whose parity is wrong. -/
  | hostByteParityError (p : Port) (raw : Frame)
  /-- KBD_SET_LEDS, host byte 0xED: R365. -/
  | kbdSetLeds
  /-- KBD_ECHO, host byte 0xEE: R367. -/
  | kbdEcho
  /-- KBD_SCAN_SET, host byte 0xF0: R368. -/
  | kbdScanSet
  /-- KBD_IDENTIFY, host byte 0xF2: R370. -/
  | kbdIdentify
  /-- KBD_SET_TYPEMATIC, host byte 0xF3: R374. -/
  | kbdSetTypematic
  /-- KBD_ENABLE, host byte 0xF4: R376. -/
  | kbdEnable
  /-- KBD_DISABLE, host byte 0xF5: R377. -/
  | kbdDisable
  /-- KBD_SET_DEFAULTS, host byte 0xF6: R378. -/
  | kbdSetDefaults
  /-- KBD_RESET, host byte 0xFF: R380. -/
  | kbdReset
  /-- KBD_LED_PARAM, any host byte in its context: R366; the byte after 0xED on port 0. -/
  | kbdLedParam (b : Byte)
  /-- KBD_SET_PARAM, any host byte in its context: R369; the byte after 0xF0 on port 0. -/
  | kbdSetParam (b : Byte)
  /-- KBD_TYPEMATIC_PARAM, any host byte in its context: R375; the byte after 0xF3 on port 0. -/
  | kbdTypematicParam (b : Byte)
  /-- KBD_OTHER, any host byte in its context: R379; an unrecognized host byte on port 0. -/
  | kbdOther (b : Byte)
  /-- MOUSE_STATUS, host byte 0xE9: R421. -/
  | mouseStatus
  /-- MOUSE_READ_DATA, host byte 0xEB: R422. -/
  | mouseReadData
  /-- MOUSE_GET_ID, host byte 0xF2: R423. -/
  | mouseGetId
  /-- MOUSE_SET_RATE, host byte 0xF3: R424. -/
  | mouseSetRate
  /-- MOUSE_ENABLE, host byte 0xF4: R426. -/
  | mouseEnable
  /-- MOUSE_DISABLE, host byte 0xF5: R429. -/
  | mouseDisable
  /-- MOUSE_SET_DEFAULTS, host byte 0xF6: R430. -/
  | mouseSetDefaults
  /-- MOUSE_RESET, host byte 0xFF: R427. -/
  | mouseReset
  /-- MOUSE_RATE_PARAM, any host byte in its context: R425; the byte after 0xF3 on port 1. -/
  | mouseRateParam (b : Byte)
  /-- MOUSE_OTHER, any host byte in its context: R431; an unrecognized host byte on port 1. -/
  | mouseOther (b : Byte)
  /-- HID_INPUT, item header 0x80: R280. -/
  | hidInput (d : ItemData)
  /-- HID_OUTPUT, item header 0x90: R280. -/
  | hidOutput (d : ItemData)
  /-- HID_FEATURE, item header 0xB0: R280. -/
  | hidFeature (d : ItemData)
  /-- HID_COLLECTION, item header 0xA0: R284. -/
  | hidCollection (d : ItemData)
  /-- HID_END_COLLECTION, item header 0xC0: R285. -/
  | hidEndCollection (d : ItemData)
  /-- HID_USAGE_PAGE, item header 0x04: R270. -/
  | hidUsagePage (d : ItemData)
  /-- HID_LOGICAL_MIN, item header 0x14: R271. -/
  | hidLogicalMin (d : ItemData)
  /-- HID_LOGICAL_MAX, item header 0x24: R272. -/
  | hidLogicalMax (d : ItemData)
  /-- HID_PHYSICAL_MIN, item header 0x34: R276. -/
  | hidPhysicalMin (d : ItemData)
  /-- HID_PHYSICAL_MAX, item header 0x44: R276. -/
  | hidPhysicalMax (d : ItemData)
  /-- HID_UNIT_EXPONENT, item header 0x54: R276. -/
  | hidUnitExponent (d : ItemData)
  /-- HID_UNIT, item header 0x64: R276. -/
  | hidUnit (d : ItemData)
  /-- HID_REPORT_SIZE, item header 0x74: R273. -/
  | hidReportSize (d : ItemData)
  /-- HID_REPORT_ID, item header 0x84: R274. -/
  | hidReportId (d : ItemData)
  /-- HID_REPORT_COUNT, item header 0x94: R275. -/
  | hidReportCount (d : ItemData)
  /-- HID_PUSH, item header 0xA4: R276. -/
  | hidPush (d : ItemData)
  /-- HID_POP, item header 0xB4: R276. -/
  | hidPop (d : ItemData)
  /-- HID_USAGE, item header 0x08: R277. -/
  | hidUsage (d : ItemData)
  /-- HID_USAGE_MIN, item header 0x18: R278. -/
  | hidUsageMin (d : ItemData)
  /-- HID_USAGE_MAX, item header 0x28: R278. -/
  | hidUsageMax (d : ItemData)
  /-- HID_GLOBAL_RESERVED_C4, item header 0xC4: R276. -/
  | hidGlobalReservedC4 (d : ItemData)
  /-- HID_GLOBAL_RESERVED_D4, item header 0xD4: R276. -/
  | hidGlobalReservedD4 (d : ItemData)
  /-- HID_GLOBAL_RESERVED_E4, item header 0xE4: R276. -/
  | hidGlobalReservedE4 (d : ItemData)
  /-- HID_GLOBAL_RESERVED_F4, item header 0xF4: R276. -/
  | hidGlobalReservedF4 (d : ItemData)
  /-- HID_DESIGNATOR_INDEX, item header 0x38: R279. -/
  | hidDesignatorIndex (d : ItemData)
  /-- HID_DESIGNATOR_MIN, item header 0x48: R279. -/
  | hidDesignatorMin (d : ItemData)
  /-- HID_DESIGNATOR_MAX, item header 0x58: R279. -/
  | hidDesignatorMax (d : ItemData)
  /-- HID_STRING_INDEX, item header 0x78: R279. -/
  | hidStringIndex (d : ItemData)
  /-- HID_STRING_MIN, item header 0x88: R279. -/
  | hidStringMin (d : ItemData)
  /-- HID_STRING_MAX, item header 0x98: R279. -/
  | hidStringMax (d : ItemData)
  /-- HID_DELIMITER, item header 0xA8: R279. -/
  | hidDelimiter (d : ItemData)
  /-- HID_LOCAL_RESERVED_68, item header 0x68: R279. -/
  | hidLocalReserved68 (d : ItemData)
  /-- HID_LOCAL_RESERVED_B8, item header 0xB8: R279. -/
  | hidLocalReservedB8 (d : ItemData)
  /-- HID_LOCAL_RESERVED_C8, item header 0xC8: R279. -/
  | hidLocalReservedC8 (d : ItemData)
  /-- HID_LOCAL_RESERVED_D8, item header 0xD8: R279. -/
  | hidLocalReservedD8 (d : ItemData)
  /-- HID_LOCAL_RESERVED_E8, item header 0xE8: R279. -/
  | hidLocalReservedE8 (d : ItemData)
  /-- HID_LOCAL_RESERVED_F8, item header 0xF8: R279. -/
  | hidLocalReservedF8 (d : ItemData)
  /-- HID_MAIN_RESERVED_00, item header 0x00: R286. -/
  | hidMainReserved00 (d : ItemData)
  /-- HID_MAIN_RESERVED_10, item header 0x10: R286. -/
  | hidMainReserved10 (d : ItemData)
  /-- HID_MAIN_RESERVED_20, item header 0x20: R286. -/
  | hidMainReserved20 (d : ItemData)
  /-- HID_MAIN_RESERVED_30, item header 0x30: R286. -/
  | hidMainReserved30 (d : ItemData)
  /-- HID_MAIN_RESERVED_40, item header 0x40: R286. -/
  | hidMainReserved40 (d : ItemData)
  /-- HID_MAIN_RESERVED_50, item header 0x50: R286. -/
  | hidMainReserved50 (d : ItemData)
  /-- HID_MAIN_RESERVED_60, item header 0x60: R286. -/
  | hidMainReserved60 (d : ItemData)
  /-- HID_MAIN_RESERVED_70, item header 0x70: R286. -/
  | hidMainReserved70 (d : ItemData)
  /-- HID_MAIN_RESERVED_D0, item header 0xD0: R286. -/
  | hidMainReservedD0 (d : ItemData)
  /-- HID_MAIN_RESERVED_E0, item header 0xE0: R286. -/
  | hidMainReservedE0 (d : ItemData)
  /-- HID_MAIN_RESERVED_F0, item header 0xF0: R286. -/
  | hidMainReservedF0 (d : ItemData)
  /-- HID_LONG_ITEM, long item: R263. -/
  | hidLongItem (tag : Byte) (data : List Byte)
  /-- HID_RESERVED_TYPE3, item header 0x0C: R287. -/
  | hidReservedType3 (tag : BitVec 4) (d : ItemData)
  /-- UsbMount, entry point: R310. -/
  | usbMount (addr itf itfProtocol : Byte) (desc : List Byte)
  /-- UsbReport, entry point: R315. -/
  | usbReport (addr itf : Byte) (rep : List Byte)
  /-- UsbUnmount, entry point: R330. -/
  | usbUnmount (addr itf : Byte)
  /-- Enqueue, entry point: R221. -/
  | enqueue (p : Port) (bytes : List Byte)
  /-- Poll, entry point: R229. -/
  | poll (p : Port) (lineIdle : Bool)
  /-- PhyRx, entry point: R240. -/
  | phyRx (p : Port) (raw : Frame)
  /-- PhyTxFail, entry point: R241. -/
  | phyTxFail (p : Port)
  /-- onKeyTransition, entry point: R350. -/
  | onKeyTransition (u : Byte) (pressed : Bool)
  /-- onMovement, entry point: R410. -/
  | onMovement (buttons : Byte) (dx dy wheel : Int)
  /-- KbdRepeatFire, entry point: R356. -/
  | kbdRepeatFire
  /-- KbdResetDone, entry point: R381. -/
  | kbdResetDone (deadline : Nat)
  /-- LedSync, entry point: R398. -/
  | ledSync
  /-- MouseEmitFire, entry point: R412. -/
  | mouseEmitFire
  /-- MouseResetDone, entry point: R428. -/
  | mouseResetDone (deadline : Nat)
deriving DecidableEq, Repr

end Sys2Proof
end

