-- ==== Sys2Proof/Machine/State.lean ====
section
/-! DEFINITION. The machine's state (10_state), as plain data, and the state after power-on (R551).
Fields marked MODEL are the model's own, not the spec's (INVENTORY.md, State). -/

namespace Sys2Proof.Machine

/-! ## Records of the spec -/

/-- `T[p]` (R33). -/
structure Transceiver where
  queue     : List (List Byte)
  bytesSent : Nat
  lastTx    : Byte
  lastRx    : Byte
  busyUntil : Nat
  failLatch : Bool
  drops     : Nat
deriving DecidableEq, Repr

/-- `K` (R36). `resetPending` is a multiset, kept as a list in rising order (log 5). -/
structure Keyboard where
  enabled        : Bool
  mods           : Byte
  repeatKey      : Byte
  delayMs        : Nat
  intervalUs     : Nat
  repeatTimer    : Option Nat
  ledByte        : Byte
  ledSyncPending : Bool
  resetPending   : List Nat
deriving DecidableEq, Repr

/-- The keyboard engine's derived mode (R43). -/
inductive KbdMode where
  | scanning | disabled | resetInProgress
deriving DecidableEq, Repr

/-- The mouse protocol level (R41, R44). -/
inductive Level where
  | standard | intelliMouse | explorer
deriving DecidableEq, Repr

/-- `M` (R41). The accumulators are read in two's complement. -/
structure Mouse where
  streaming    : Bool
  level        : Level
  magic        : BitVec 24
  rate         : Byte
  buttons      : Byte
  accDx        : BitVec 16
  accDy        : BitVec 16
  accWheel     : BitVec 8
  wasMoving    : Bool
  emitTimer    : Option Nat
  resetPending : List Nat
deriving DecidableEq, Repr

/-- The kind of a report field (R48, R49). -/
inductive ItemKind where
  | input | output | feature
deriving DecidableEq, Repr

/-- A ReportFieldDescriptor (R48); the limits are i32, read in two's complement. -/
structure Field where
  bitOffset  : BitVec 16
  bitWidth   : BitVec 8
  itemKind   : ItemKind
  usagePage  : Usage
  usage      : Usage
  logicalMin : BitVec 32
  logicalMax : BitVec 32
deriving DecidableEq, Repr

/-- A ReportDescriptor (R48). -/
structure Report where
  reportId     : Byte
  topUsagePage : Usage
  topUsage     : Usage
  fields       : List Field
deriving DecidableEq, Repr

/-- An entry `Dev[i]` of the instance table (R47). -/
structure HidInstance where
  valid        : Bool
  addr         : Byte
  itf          : Byte
  itfProtocol  : Byte
  reports      : List Report
  isMouse      : Bool
  ledsOwned    : Bool
  modifierByte : Byte
  bootKeyArray : Vector Byte 6
  nkroBitmap   : BitVec 128
deriving DecidableEq, Repr

/-- The descriptor interpreter (R55), with the walk's position `pos` (R260). -/
structure Parser where
  gUsagePage   : Usage
  gLogMin      : BitVec 32
  gLogMax      : BitVec 32
  gReportSize  : BitVec 8
  gReportCount : Nat
  gReportId    : Byte
  lUsages      : List Usage
  lUsageMin    : Option Usage
  lUsageMax    : Option Usage
  depth        : Nat
  cur          : Report
  offIn        : Nat
  offOut       : Nat
  offFeat      : Nat
  table        : List Report
  pos          : Nat
deriving DecidableEq, Repr

/-- The conditions of 60_exceptions, codes 1 to 15 (R501 to R515). -/
inductive Condition where
  /-- R501 -/
  | parityError (p : Port) (raw : Frame)
  /-- R502 -/
  | hostResend (p : Port)
  /-- R503 -/
  | txFail (p : Port)
  /-- R504 -/
  | queueFull (p : Port) (bytes : List Byte)
  /-- R505 -/
  | packetLength (p : Port) (n : Nat)
  /-- R506 -/
  | descReportsTruncated (pos : Nat)
  /-- R507 -/
  | descFieldsTruncated (pos : Nat)
  /-- R508 -/
  | descMalformed (pos : Nat)
  /-- R509 -/
  | instanceTableFull (addr itf : Byte)
  /-- R510 -/
  | unknownInstance (addr itf : Byte)
  /-- R511; `none` for an empty report -/
  | reportUnmatched (i : Nat) (rid : Option Byte)
  /-- R512 -/
  | reportIgnored (i : Nat)
  /-- R513 -/
  | rollover (i : Nat)
  /-- R514 -/
  | keyUnsupported (u : Byte)
  /-- R515 -/
  | unknownCommand (p : Port) (b : Byte)
deriving DecidableEq, Repr

/-- A record of the condition log (R500): the condition and the time it was raised. -/
structure LogRecord where
  cond : Condition
  time : Nat
deriving DecidableEq, Repr

/-- The block's observable outputs (R9). -/
inductive Output where
  | phyTx (p : Port) (frame : Frame)
  | usbLed (i : Nat) (v : Byte)
  | usbRequestReport (i : Nat)
deriving DecidableEq, Repr

/-! ## The model's own records -/

/-- MODEL. The value of the codec's two pure functions, for the FRAME instruction (log 6). -/
structure CodecResult where
  byte     : Byte
  parityOk : Bool
  frame    : Frame
deriving DecidableEq, Repr

/-- MODEL. One step of one agent (R8): the time agent, the power supply, an entry point of R140, a word
given to the codec, one item given to the descriptor interpreter (log 1, log 7). -/
inductive Event where
  | advance (us : Nat)
  | powerOn
  | codec (raw : Frame)
  | item (bytes : List Byte)
  | usbMount (addr itf itfProtocol : Byte) (desc : List Byte)
  | usbReport (addr itf : Byte) (rep : List Byte)
  | usbUnmount (addr itf : Byte)
  | enqueue (p : Port) (bytes : List Byte)
  | poll (p : Port) (lineIdle : Bool)
  | phyRx (p : Port) (raw : Frame)
  | phyTxFail (p : Port)
  | onKeyTransition (u : Byte) (pressed : Bool)
  | onMovement (buttons : Byte) (dx dy wheel : Int)
  | kbdRepeatFire
  | kbdResetDone (deadline : Nat)
  | ledSync
  | mouseEmitFire
  | mouseResetDone (deadline : Nat)
deriving DecidableEq, Repr

/-! ## The state -/

/-- The machine: time (R32), two transceivers and their receive FIFOs (R33, R34), the two engines (R36,
R41), the instance table (R47), the interpreter (R55), the condition log (R56) and the outputs so far
(R9). MODEL fields: `cfg` (log 2), `codec` (log 6), `agenda` (log 1). -/
structure State where
  cfg    : Params
  now    : Nat
  t0     : Transceiver
  t1     : Transceiver
  rx0    : List Frame
  rx1    : List Frame
  k      : Keyboard
  m      : Mouse
  dev    : List HidInstance
  parser : Parser
  log    : List LogRecord
  out    : List Output
  codec  : Option CodecResult
  agenda : List Event
deriving DecidableEq, Repr

/-- There is no fault: no condition is fatal and the block never halts (R516; log 14). -/
inductive Fault
deriving DecidableEq, Repr

/-- Why an instruction has no meaning. -/
inductive Refusal where
  /-- Raised by an arm of `exec` for an instruction the model has not reached; no arm does. Safe: the
  run stops. -/
  | notModelled (mnemonic : String)
deriving DecidableEq, Repr

/-! ## Power-on (R551) -/

/-- A transceiver at power-on, with the self-test packet of POWER_ON_BAT if there is one. -/
def Transceiver.powerOn (bat : List (List Byte)) : Transceiver where
  queue := bat
  bytesSent := 0
  lastTx := 0x00#8
  lastRx := 0x00#8
  busyUntil := 0
  failLatch := false
  drops := 0

/-- The keyboard engine at power-on: Scanning, the default rate and delay in force. -/
def Keyboard.powerOn (c : Params) : Keyboard where
  enabled := true
  mods := 0x00#8
  repeatKey := 0x00#8
  delayMs := c.typematicDelayMs.get typematicDefaultDelay
  intervalUs := c.typematicIntervalUs.get typematicDefaultRate
  repeatTimer := none
  ledByte := 0x00#8
  ledSyncPending := false
  resetPending := []

/-- The mouse engine at power-on. -/
def Mouse.powerOn : Mouse where
  streaming := false
  level := .standard
  magic := 0#24
  rate := sampleRateDefault
  buttons := 0x00#8
  accDx := 0#16
  accDy := 0#16
  accWheel := 0#8
  wasMoving := false
  emitTimer := none
  resetPending := []

/-- A free slot of the instance table. R47 gives `valid` false and leaves the other fields '-': zeros
here, DESIGN CHOICE, read by no rule (log 10). -/
def HidInstance.free : HidInstance where
  valid := false
  addr := 0x00#8
  itf := 0x00#8
  itfProtocol := 0x00#8
  reports := []
  isMouse := false
  ledsOwned := false
  modifierByte := 0x00#8
  bootKeyArray := Vector.replicate 6 0x00#8
  nkroBitmap := 0#128

/-- A report with nothing in it, `cur`'s initial value (R55). -/
def Report.empty : Report := ⟨0x00#8, 0#16, 0#16, []⟩

/-- The interpreter's initial values (R55). -/
def Parser.init : Parser where
  gUsagePage := 0#16
  gLogMin := 0#32
  gLogMax := 0#32
  gReportSize := 0#8
  gReportCount := 0
  gReportId := 0x00#8
  lUsages := []
  lUsageMin := none
  lUsageMax := none
  depth := 0
  cur := Report.empty
  offIn := 0
  offOut := 0
  offFeat := 0
  table := []
  pos := 0

/-- The power-on state of R551 for given parameters: with POWER_ON_BAT the queues hold the self-test
replies. Nothing is scheduled and nothing has been output. -/
def State.powerOn (c : Params) : State where
  cfg := c
  now := 0
  t0 := Transceiver.powerOn (if c.powerOnBat then [[0xAA#8]] else [])
  t1 := Transceiver.powerOn (if c.powerOnBat then [[0xAA#8, 0x00#8]] else [])
  rx0 := []
  rx1 := []
  k := Keyboard.powerOn c
  m := Mouse.powerOn
  dev := List.replicate c.deviceMax HidInstance.free
  parser := Parser.init
  log := []
  out := []
  codec := none
  agenda := []

/-- The machine right after power-on (R551), with the default parameters of R6. -/
def State.reset : State := State.powerOn defaultParams

end Sys2Proof.Machine
end

