-- ==== Sys2Proof/Machine/Operands.lean ====
section
/-! DEFINITION. The operand forms: bit fields of parameter bytes (R146, R147), item data (R155), modifier
indices (R38), report bits and fields (R104, R300), clamps and widths (R11). -/

namespace Sys2Proof.Machine

/-- `v[n] <- 1 if b else 0` (R10). -/
def setBit {w : Nat} (v : BitVec w) (n : Nat) (b : Bool) : BitVec w :=
  if b then v ||| (1#w <<< n) else v &&& ~~~(1#w <<< n)

/-- `clamp(x, lo, hi)` (R11). -/
def clampInt (x lo hi : Int) : Int := min (max x lo) hi

/-- `u8(x)` (R11). -/
def u8 (x : Int) : Byte := BitVec.ofInt 8 x

/-! ## Parameter bytes -/

/-- The LED index: parameter bits 2:0 (R146, R366). -/
def ledIndex (b : Byte) : Fin 8 := ⟨b.toNat % 8, Nat.mod_lt _ (by decide)⟩

/-- The typematic rate index: parameter bits 4:0 (R147). -/
def rateIndex (b : Byte) : Fin 32 := ⟨b.toNat % 32, Nat.mod_lt _ (by decide)⟩

/-- The typematic delay index: parameter bits 6:5 (R147). -/
def delayIndex (b : Byte) : Fin 4 := ⟨b.toNat / 32 % 4, Nat.mod_lt _ (by decide)⟩

/-! ## Keyboard usages -/

/-- The modifier usages 0xE0 to 0xE7 (R38). -/
def isModifier (u : Byte) : Bool := 0xE0 ≤ u.toNat && u.toNat ≤ 0xE7

/-- The modifier bit of usage 0xE0 + n (R38). -/
def modIndex (u : Byte) : Fin 8 := ⟨u.toNat % 8, Nat.mod_lt _ (by decide)⟩

/-! ## Item data -/

/-- The unsigned value `u` of an item's data, 0 when it has none (R155). -/
def itemUnsigned (d : ItemData) : BitVec 32 :=
  match d with
  | .none => 0#32
  | .b1 v => v.setWidth 32
  | .b2 v => v.setWidth 32
  | .b4 v => v

/-- `sext_{8n}(u)` of an item's data, 0 when it has none (R155, R271). -/
def itemSigned (d : ItemData) : BitVec 32 :=
  match d with
  | .none => 0#32
  | .b1 v => v.signExtend 32
  | .b2 v => v.signExtend 32
  | .b4 v => v

/-! ## Reports -/

/-- Report bit n: bit `n mod 8` of byte `n div 8`, 0 beyond the report (R104, R108). -/
def reportBit (rep : List Byte) (n : Nat) : Bool := (rep.getD (n / 8) 0#8).getLsbD (n % 8)

/-- `ReportRead(rep, off, w)`: bit k of the value is report bit off + k (R300). -/
def reportRead (rep : List Byte) (off : Nat) : Nat → Nat
  | 0 => 0
  | w + 1 => reportRead rep off w + (reportBit rep (off + w)).toNat * 2 ^ w

/-- `sext_w(v)` of a w-bit value (R11). -/
def sext (w v : Nat) : Int := if v < 2 ^ (w - 1) then v else (v : Int) - 2 ^ w

/-- `extractField(f, rep)` (R300): at most 32 bits, signed exactly when logicalMin < 0. -/
def extractField (f : Field) (rep : List Byte) : Int :=
  let w := min f.bitWidth.toNat 32
  let v := reportRead rep f.bitOffset.toNat w
  if f.logicalMin.msb && 0 < w then sext w v else v

/-- The code of an itemKind where a number is needed (R49). -/
def ItemKind.code (k : ItemKind) : Nat :=
  match k with
  | .input => 0
  | .output => 1
  | .feature => 2

/-! ## Mouse values -/

/-- `levelId` (R44, R423). -/
def levelId (l : Level) : Byte :=
  match l with
  | .standard => 0x00#8
  | .intelliMouse => 0x03#8
  | .explorer => 0x04#8

/-- `bump`: a movement byte 0xAA is sent as 0xAB (R415). -/
def bump (v : Byte) : Byte := if v = 0xAA#8 then 0xAB#8 else v

/-- `1000000 div rate` microseconds (R411). -/
def emitInterval (rate : Byte) : Nat := 1000000 / rate.toNat

end Sys2Proof.Machine
end

