-- ==== Sys2Proof/Machine/Ops.lean ====
section
/-! DEFINITION. The named operations over the state: accessors, the condition log (`raise`, the block's
only reaction to an abnormal situation, R500, R516), outputs (R9), the outbound queue (R221), the host
byte's flush and callback (R235), deadline multisets and timers (R521). -/

namespace Sys2Proof.Machine

/-- What a step answers. -/
abbrev StepResult := Host.Outcome State Fault Refusal

/-! ## Accessors -/

/-- `T[p]`. -/
def State.t (s : State) (p : Port) : Transceiver :=
  match p with
  | .kbd => s.t0
  | .mouse => s.t1

/-- `T[p] <- t`. -/
def State.setT (s : State) (p : Port) (t : Transceiver) : State :=
  match p with
  | .kbd => { s with t0 := t }
  | .mouse => { s with t1 := t }

/-- `rxFifo[p]`. -/
def State.rx (s : State) (p : Port) : List Frame :=
  match p with
  | .kbd => s.rx0
  | .mouse => s.rx1

/-- `rxFifo[p] <- f`. -/
def State.setRx (s : State) (p : Port) (f : List Frame) : State :=
  match p with
  | .kbd => { s with rx0 := f }
  | .mouse => { s with rx1 := f }

/-- `K <- k`. -/
def State.setK (s : State) (k : Keyboard) : State := { s with k := k }

/-- `M <- m`. -/
def State.setM (s : State) (m : Mouse) : State := { s with m := m }

/-- `Dev <- d`. -/
def State.setDev (s : State) (d : List HidInstance) : State := { s with dev := d }

/-- The interpreter state becomes q. -/
def State.setParser (s : State) (q : Parser) : State := { s with parser := q }

/-- The codec's result becomes c (log 6). -/
def State.setCodec (s : State) (c : Option CodecResult) : State := { s with codec := c }

/-- The events still to come become a (log 1). -/
def State.setAgenda (s : State) (a : List Event) : State := { s with agenda := a }

/-- `now <- n` (R32). -/
def State.setNow (s : State) (n : Nat) : State := { s with now := n }

/-! ## Conditions and outputs -/

/-- `raise C(info)` (R500): append the record (C, info, now) to the log, and nothing else. -/
def State.raise (s : State) (c : Condition) : State := { s with log := s.log ++ [⟨c, s.now⟩] }

/-- The code of a condition (R501 to R515). -/
def Condition.code (c : Condition) : Nat :=
  match c with
  | .parityError _ _ => 1
  | .hostResend _ => 2
  | .txFail _ => 3
  | .queueFull _ _ => 4
  | .packetLength _ _ => 5
  | .descReportsTruncated _ => 6
  | .descFieldsTruncated _ => 7
  | .descMalformed _ => 8
  | .instanceTableFull _ _ => 9
  | .unknownInstance _ _ => 10
  | .reportUnmatched _ _ => 11
  | .reportIgnored _ => 12
  | .rollover _ => 13
  | .keyUnsupported _ => 14
  | .unknownCommand _ _ => 15

/-- Append one output (R9). -/
def State.emit (s : State) (o : Output) : State := { s with out := s.out ++ [o] }

/-- `PhyTx(p, encodeFrame(b))`: hand one byte's frame to the PHY (R12, R203). -/
def State.sendByte (s : State) (p : Port) (b : Byte) : State := s.emit (.phyTx p (encodeFrame b))

/-! ## The outbound queue -/

/-- Count a dropped packet (R33 `drops`). -/
def State.countDrop (s : State) (p : Port) : State :=
  s.setT p { s.t p with drops := (s.t p).drops + 1 }

/-- `Enqueue(p, bytes)` (R221): drop and count an empty or over-long packet, drop and count when the
queue is full, else push at the tail. -/
def enqueue (p : Port) (bytes : List Byte) (s : State) : State :=
  if bytes.length = 0 ∨ packetMax < bytes.length then
    (s.countDrop p).raise (.packetLength p bytes.length)
  else if (s.t p).queue.length = s.cfg.queueCap then
    (s.countDrop p).raise (.queueFull p bytes)
  else
    s.setT p { s.t p with queue := (s.t p).queue ++ [bytes] }

/-- The flush of R235: the queue is emptied and the byte index returns to 0. -/
def State.flush (s : State) (p : Port) : State :=
  s.setT p { s.t p with queue := [], bytesSent := 0 }

/-- `T[p].lastRx <- b`. -/
def State.setLastRx (s : State) (p : Port) (b : Byte) : State :=
  s.setT p { s.t p with lastRx := b }

/-- A valid host byte b other than 0xFE (R235): flush, then the engine's callback, then `lastRx`. -/
def takeHostByte (p : Port) (b : Byte) (callback : State → State) (s : State) : State :=
  (callback (s.flush p)).setLastRx p b

/-! ## Timers and deadlines -/

/-- Add a deadline to a multiset of deadlines, kept in rising order (R36, R41, R521; log 5). -/
def insertDeadline (d : Nat) : List Nat → List Nat
  | [] => [d]
  | e :: rest => if d ≤ e then d :: e :: rest else e :: insertDeadline d rest

/-- `K.repeatKey <- u; Arm(KbdRepeat, deadline)` (R521; R37: the two are written together). -/
def armRepeat (u : Byte) (deadline : Nat) (s : State) : State :=
  s.setK { s.k with repeatKey := u, repeatTimer := some deadline }

/-- `K.repeatKey <- 0; Cancel(KbdRepeat)` (R521). -/
def cancelRepeat (s : State) : State :=
  s.setK { s.k with repeatKey := 0x00#8, repeatTimer := none }

/-- `Arm(MouseEmit, deadline)` (R521). -/
def armEmit (deadline : Nat) (s : State) : State :=
  s.setM { s.m with emitTimer := some deadline }

/-- The derived mode of the keyboard engine (R43). -/
def Keyboard.mode (k : Keyboard) : KbdMode :=
  if k.resetPending ≠ [] then .resetInProgress
  else if k.enabled then .scanning
  else .disabled

end Sys2Proof.Machine
end

