-- ==== Sys2Proof/Machine/Codec.lean ====
section
/-! DEFINITION. The codec as an instruction (table row FRAME, R200, R201). -/

namespace Sys2Proof.Machine

/-- The value of the codec on an 11-bit word: `decodeFrame` of the word, and `encodeFrame` of the byte
it carries. -/
def codecResult (raw : Frame) : CodecResult :=
  let r := decodeFrame raw
  ⟨r.1, r.2, encodeFrame r.1⟩

/-- FRAME (R200, R201): the pure functions' value is left in the codec's result; nothing else is
written (R203; log 6). -/
def execFrame (raw : Frame) (s : State) : StepResult :=
  .next (s.setCodec (some (codecResult raw)))

end Sys2Proof.Machine
end

