-- ==== Sys2Proof/WellFormed.lean ====
section
/-! DEFINITION. Well-formed instructions: operands that the row's encoding admits (30_encoding). A row
without an operand, an item whose data is any 0, 1, 2 or 4 bytes, and an entry point (R140: any
operands) are always well formed. -/

namespace Sys2Proof

/-- The keyboard's two-byte commands (R143). -/
def isKbdPrefix (b : Byte) : Bool := b == 0xED#8 || b == 0xF0#8 || b == 0xF3#8

/-- The mouse's two-byte command (R143). -/
def isMousePrefix (b : Byte) : Bool := b == 0xF3#8

/-- The bytes of the keyboard command surface (R144). -/
def isKbdCommand (b : Byte) : Bool :=
  b == 0xED#8 || b == 0xEE#8 || b == 0xF0#8 || b == 0xF2#8 || b == 0xF3#8 || b == 0xF4#8
    || b == 0xF5#8 || b == 0xF6#8 || b == 0xFF#8

/-- The bytes of the mouse command surface (R145). -/
def isMouseCommand (b : Byte) : Bool :=
  b == 0xE9#8 || b == 0xEB#8 || b == 0xF2#8 || b == 0xF3#8 || b == 0xF4#8 || b == 0xF5#8
    || b == 0xF6#8 || b == 0xFF#8

/-- The FRAME row's fixed bits: start bit 0 and stop bit 1 (R141). -/
def hasFrameBits (raw : Frame) : Bool := !raw.getLsbD 0 && raw.getLsbD 10

/-- The operand checks. A host byte 0xFE is never an engine's byte (R143); an unrecognized byte is no
command (R144, R145); a parity error has wrong parity (R201); a long item has at most 255 data bytes
(R153); header 0xFE is the long item, not a reserved short one (R154). -/
def Instr.wellFormed (i : Instr) : Bool :=
  match i with
  | .frame raw => hasFrameBits raw
  | .hostByteParityError _ raw => !(Machine.decodeFrame raw).2
  | .kbdLedParam b => b != 0xFE#8
  | .kbdSetParam b => b != 0xFE#8
  | .kbdTypematicParam b => b != 0xFE#8
  | .kbdOther b => b != 0xFE#8 && !isKbdCommand b
  | .mouseRateParam b => b != 0xFE#8
  | .mouseOther b => b != 0xFE#8 && !isMouseCommand b
  | .hidLongItem _ data => data.length ≤ 255
  | .hidReservedType3 tag d =>
    match d with
    | .b2 _ => tag != 0xF#4
    | .none => true
    | .b1 _ => true
    | .b4 _ => true
  | .hostResend _ | .kbdSetLeds | .kbdEcho | .kbdScanSet | .kbdIdentify | .kbdSetTypematic
  | .kbdEnable | .kbdDisable | .kbdSetDefaults | .kbdReset | .mouseStatus | .mouseReadData
  | .mouseGetId | .mouseSetRate | .mouseEnable | .mouseDisable | .mouseSetDefaults | .mouseReset
  | .hidInput _ | .hidOutput _ | .hidFeature _ | .hidCollection _ | .hidEndCollection _
  | .hidUsagePage _ | .hidLogicalMin _ | .hidLogicalMax _ | .hidPhysicalMin _ | .hidPhysicalMax _
  | .hidUnitExponent _ | .hidUnit _ | .hidReportSize _ | .hidReportId _ | .hidReportCount _
  | .hidPush _ | .hidPop _ | .hidUsage _ | .hidUsageMin _ | .hidUsageMax _
  | .hidGlobalReservedC4 _ | .hidGlobalReservedD4 _ | .hidGlobalReservedE4 _
  | .hidGlobalReservedF4 _ | .hidDesignatorIndex _ | .hidDesignatorMin _ | .hidDesignatorMax _
  | .hidStringIndex _ | .hidStringMin _ | .hidStringMax _ | .hidDelimiter _
  | .hidLocalReserved68 _ | .hidLocalReservedB8 _ | .hidLocalReservedC8 _ | .hidLocalReservedD8 _
  | .hidLocalReservedE8 _ | .hidLocalReservedF8 _ | .hidMainReserved00 _ | .hidMainReserved10 _
  | .hidMainReserved20 _ | .hidMainReserved30 _ | .hidMainReserved40 _ | .hidMainReserved50 _
  | .hidMainReserved60 _ | .hidMainReserved70 _ | .hidMainReservedD0 _ | .hidMainReservedE0 _
  | .hidMainReservedF0 _ | .usbMount _ _ _ _ | .usbReport _ _ _ | .usbUnmount _ _ | .enqueue _ _
  | .poll _ _ | .phyRx _ _ | .phyTxFail _ | .onKeyTransition _ _ | .onMovement _ _ _ _
  | .kbdRepeatFire | .kbdResetDone _ | .ledSync | .mouseEmitFire | .mouseResetDone _ => true

/-- The instruction's operands are ones its encoding admits. -/
abbrev WellFormed (i : Instr) : Prop := i.wellFormed = true

end Sys2Proof
end

