-- ==== Sys2Proof/Decode.lean ====
section
/-! DEFINITION. The decoder and the encoder, both from 30_encoding: host bytes (R143 to R145), received
frames (R142), descriptor items (R152 to R155), codec words (R141). Entry points have no encoding. -/

namespace Sys2Proof

/-- Why bytes hold no instruction. -/
inductive DecodeError where
  /-- the item's header or data runs past the end of the bytes (R262), or a word lacks a byte -/
  | truncated
deriving DecidableEq, Repr

/-! ## Host bytes -/

/-- A byte of port 0 that is no parameter: a command of R144, or an unrecognized byte. -/
def decodeKbdCommand (b : Byte) : Instr :=
  if b = 0xED#8 then .kbdSetLeds
  else if b = 0xEE#8 then .kbdEcho
  else if b = 0xF0#8 then .kbdScanSet
  else if b = 0xF2#8 then .kbdIdentify
  else if b = 0xF3#8 then .kbdSetTypematic
  else if b = 0xF4#8 then .kbdEnable
  else if b = 0xF5#8 then .kbdDisable
  else if b = 0xF6#8 then .kbdSetDefaults
  else if b = 0xFF#8 then .kbdReset
  else .kbdOther b

/-- A byte of port 1 that is no parameter: a command of R145, or an unrecognized byte. -/
def decodeMouseCommand (b : Byte) : Instr :=
  if b = 0xE9#8 then .mouseStatus
  else if b = 0xEB#8 then .mouseReadData
  else if b = 0xF2#8 then .mouseGetId
  else if b = 0xF3#8 then .mouseSetRate
  else if b = 0xF4#8 then .mouseEnable
  else if b = 0xF5#8 then .mouseDisable
  else if b = 0xF6#8 then .mouseSetDefaults
  else if b = 0xFF#8 then .mouseReset
  else .mouseOther b

/-- R143 (1), keyboard: after 0xED, 0xF0 or 0xF3 the byte is that command's parameter, whatever its value. -/
def decodeKbdByte (prev b : Byte) : Instr :=
  if prev = 0xED#8 then .kbdLedParam b
  else if prev = 0xF0#8 then .kbdSetParam b
  else if prev = 0xF3#8 then .kbdTypematicParam b
  else decodeKbdCommand b

/-- R143 (1), mouse: after 0xF3 the byte is the rate parameter, whatever its value. -/
def decodeMouseByte (prev b : Byte) : Instr :=
  if prev = 0xF3#8 then .mouseRateParam b else decodeMouseCommand b

/-- A host byte with correct parity (R143): 0xFE is taken as a resend request before any engine sees
it; every other byte is decoded for the port's engine by the previous host byte. -/
def decodeHostByte (p : Port) (prev b : Byte) : Instr :=
  if b = 0xFE#8 then .hostResend p
  else match p with
    | .kbd => decodeKbdByte prev b
    | .mouse => decodeMouseByte prev b

/-- A received 11-bit frame (R142, R201): wrong parity, or the host byte it carries. No received word
is illegal (R160). -/
def decodeWire (p : Port) (prev : Byte) (raw : Frame) : Instr :=
  let r := Machine.decodeFrame raw
  if r.2 then decodeHostByte p prev r.1 else .hostByteParityError p raw

/-! ## Descriptor items -/

/-- The size code of an item header, bits 1:0 (R152). -/
def sizeCode (h : Byte) : Nat := h.toNat % 4

/-- The number of data bytes of a short item with header h: 0, 1, 2 or 4 (R152, R153). -/
def dataLength (h : Byte) : Nat :=
  match sizeCode h with
  | 0 => 0
  | 1 => 1
  | 2 => 2
  | _ => 4

/-- The data of a short item with header h, little-endian (R105, R155), and the bytes after it. -/
def takeData (h : Byte) (bytes : List Byte) : Option (ItemData × List Byte) :=
  match sizeCode h, bytes with
  | 0, rest => some (.none, rest)
  | 1, x :: rest => some (.b1 x, rest)
  | 2, x :: y :: rest => some (.b2 (y ++ x), rest)
  | 3, x :: y :: z :: w :: rest => some (.b4 (w ++ z ++ y ++ x), rest)
  | _, _ => none

/-- The short item of a header: type in bits 3:2, tag in bits 7:4 (R154). Every base of types 0 to 2
is listed; what is left is the reserved type 3 (R287). -/
def itemOfHeader (h : Byte) (d : ItemData) : Instr :=
  match (h.toNat / 4) * 4 with
  | 0x80 => .hidInput d
  | 0x90 => .hidOutput d
  | 0xB0 => .hidFeature d
  | 0xA0 => .hidCollection d
  | 0xC0 => .hidEndCollection d
  | 0x04 => .hidUsagePage d
  | 0x14 => .hidLogicalMin d
  | 0x24 => .hidLogicalMax d
  | 0x34 => .hidPhysicalMin d
  | 0x44 => .hidPhysicalMax d
  | 0x54 => .hidUnitExponent d
  | 0x64 => .hidUnit d
  | 0x74 => .hidReportSize d
  | 0x84 => .hidReportId d
  | 0x94 => .hidReportCount d
  | 0xA4 => .hidPush d
  | 0xB4 => .hidPop d
  | 0x08 => .hidUsage d
  | 0x18 => .hidUsageMin d
  | 0x28 => .hidUsageMax d
  | 0xC4 => .hidGlobalReservedC4 d
  | 0xD4 => .hidGlobalReservedD4 d
  | 0xE4 => .hidGlobalReservedE4 d
  | 0xF4 => .hidGlobalReservedF4 d
  | 0x38 => .hidDesignatorIndex d
  | 0x48 => .hidDesignatorMin d
  | 0x58 => .hidDesignatorMax d
  | 0x78 => .hidStringIndex d
  | 0x88 => .hidStringMin d
  | 0x98 => .hidStringMax d
  | 0xA8 => .hidDelimiter d
  | 0x68 => .hidLocalReserved68 d
  | 0xB8 => .hidLocalReservedB8 d
  | 0xC8 => .hidLocalReservedC8 d
  | 0xD8 => .hidLocalReservedD8 d
  | 0xE8 => .hidLocalReservedE8 d
  | 0xF8 => .hidLocalReservedF8 d
  | 0x00 => .hidMainReserved00 d
  | 0x10 => .hidMainReserved10 d
  | 0x20 => .hidMainReserved20 d
  | 0x30 => .hidMainReserved30 d
  | 0x40 => .hidMainReserved40 d
  | 0x50 => .hidMainReserved50 d
  | 0x60 => .hidMainReserved60 d
  | 0x70 => .hidMainReserved70 d
  | 0xD0 => .hidMainReservedD0 d
  | 0xE0 => .hidMainReservedE0 d
  | 0xF0 => .hidMainReservedF0 d
  | _ => .hidReservedType3 (h.extractLsb' 4 4) d

/-- One short item: header, then its data (R261). -/
def decodeShortItem (h : Byte) (rest : List Byte) : Except DecodeError (Instr × List Byte) :=
  match takeData h rest with
  | some (d, rest') => .ok (itemOfHeader h d, rest')
  | none => .error .truncated

/-- One descriptor item (R261): the long item 0xFE with its size and tag bytes (R153), or a short item.
An item that runs past the end is rejected as truncated (R262). -/
def decodeItem (bytes : List Byte) : Except DecodeError (Instr × List Byte) :=
  match bytes with
  | [] => .error .truncated
  | h :: rest =>
    if h = 0xFE#8 then
      match rest with
      | n :: tag :: rest' =>
        if n.toNat ≤ rest'.length then .ok (.hidLongItem tag (rest'.take n.toNat), rest'.drop n.toNat)
        else .error .truncated
      | _ => .error .truncated
    else decodeShortItem h rest

/-! ## All streams -/

/-- An 11-bit word held in two bytes, low byte first; the bits above bit 10 are not read (R201). -/
def frameOfBytes (lo hi : Byte) : Frame := (hi ++ lo).setWidth 11

/-- The two bytes of an 11-bit word, low byte first. -/
def bytesOfFrame (raw : Frame) : List Byte := [raw.setWidth 8, (raw >>> 8).setWidth 8]

/-- Decode the first instruction of a stream, and the bytes after it. Host streams and the codec read
every word; only bytes that end too early are rejected. -/
def decode (src : Source) (bytes : List Byte) : Except DecodeError (Instr × List Byte) :=
  match src, bytes with
  | .codec, lo :: hi :: rest => .ok (.frame (frameOfBytes lo hi), rest)
  | .wire p prev, lo :: hi :: rest => .ok (decodeWire p prev (frameOfBytes lo hi), rest)
  | .host p prev, b :: rest => .ok (decodeHostByte p prev b, rest)
  | .descriptor, bytes => decodeItem bytes
  | _, _ => .error .truncated

/-! ## The encoder -/

/-- The size code that stands for an item's data (R152). -/
def ItemData.sizeCode (d : ItemData) : Byte :=
  match d with
  | .none => 0#8
  | .b1 _ => 1#8
  | .b2 _ => 2#8
  | .b4 _ => 3#8

/-- An item's data bytes, least significant first (R105). -/
def ItemData.bytes (d : ItemData) : List Byte :=
  match d with
  | .none => []
  | .b1 v => [v]
  | .b2 v => [v.extractLsb' 0 8, v.extractLsb' 8 8]
  | .b4 v => [v.extractLsb' 0 8, v.extractLsb' 8 8, v.extractLsb' 16 8, v.extractLsb' 24 8]

/-- A short item: header byte `base` with the size code in bits 1:0, then the data (R152). -/
def shortItem (base : Byte) (d : ItemData) : List Byte := (base ||| d.sizeCode) :: d.bytes

/-- The bytes of an instruction, none for an entry point (30_encoding). -/
def encode (i : Instr) : Option (List Byte) :=
  match i with
  | .frame raw => some (bytesOfFrame raw)
  | .hostResend _ => some [0xFE#8]
  | .hostByteParityError _ raw => some (bytesOfFrame raw)
  | .kbdSetLeds => some [0xED#8]
  | .kbdEcho => some [0xEE#8]
  | .kbdScanSet => some [0xF0#8]
  | .kbdIdentify => some [0xF2#8]
  | .kbdSetTypematic => some [0xF3#8]
  | .kbdEnable => some [0xF4#8]
  | .kbdDisable => some [0xF5#8]
  | .kbdSetDefaults => some [0xF6#8]
  | .kbdReset => some [0xFF#8]
  | .kbdLedParam b => some [b]
  | .kbdSetParam b => some [b]
  | .kbdTypematicParam b => some [b]
  | .kbdOther b => some [b]
  | .mouseStatus => some [0xE9#8]
  | .mouseReadData => some [0xEB#8]
  | .mouseGetId => some [0xF2#8]
  | .mouseSetRate => some [0xF3#8]
  | .mouseEnable => some [0xF4#8]
  | .mouseDisable => some [0xF5#8]
  | .mouseSetDefaults => some [0xF6#8]
  | .mouseReset => some [0xFF#8]
  | .mouseRateParam b => some [b]
  | .mouseOther b => some [b]
  | .hidInput d => some (shortItem 0x80#8 d)
  | .hidOutput d => some (shortItem 0x90#8 d)
  | .hidFeature d => some (shortItem 0xB0#8 d)
  | .hidCollection d => some (shortItem 0xA0#8 d)
  | .hidEndCollection d => some (shortItem 0xC0#8 d)
  | .hidUsagePage d => some (shortItem 0x04#8 d)
  | .hidLogicalMin d => some (shortItem 0x14#8 d)
  | .hidLogicalMax d => some (shortItem 0x24#8 d)
  | .hidPhysicalMin d => some (shortItem 0x34#8 d)
  | .hidPhysicalMax d => some (shortItem 0x44#8 d)
  | .hidUnitExponent d => some (shortItem 0x54#8 d)
  | .hidUnit d => some (shortItem 0x64#8 d)
  | .hidReportSize d => some (shortItem 0x74#8 d)
  | .hidReportId d => some (shortItem 0x84#8 d)
  | .hidReportCount d => some (shortItem 0x94#8 d)
  | .hidPush d => some (shortItem 0xA4#8 d)
  | .hidPop d => some (shortItem 0xB4#8 d)
  | .hidUsage d => some (shortItem 0x08#8 d)
  | .hidUsageMin d => some (shortItem 0x18#8 d)
  | .hidUsageMax d => some (shortItem 0x28#8 d)
  | .hidGlobalReservedC4 d => some (shortItem 0xC4#8 d)
  | .hidGlobalReservedD4 d => some (shortItem 0xD4#8 d)
  | .hidGlobalReservedE4 d => some (shortItem 0xE4#8 d)
  | .hidGlobalReservedF4 d => some (shortItem 0xF4#8 d)
  | .hidDesignatorIndex d => some (shortItem 0x38#8 d)
  | .hidDesignatorMin d => some (shortItem 0x48#8 d)
  | .hidDesignatorMax d => some (shortItem 0x58#8 d)
  | .hidStringIndex d => some (shortItem 0x78#8 d)
  | .hidStringMin d => some (shortItem 0x88#8 d)
  | .hidStringMax d => some (shortItem 0x98#8 d)
  | .hidDelimiter d => some (shortItem 0xA8#8 d)
  | .hidLocalReserved68 d => some (shortItem 0x68#8 d)
  | .hidLocalReservedB8 d => some (shortItem 0xB8#8 d)
  | .hidLocalReservedC8 d => some (shortItem 0xC8#8 d)
  | .hidLocalReservedD8 d => some (shortItem 0xD8#8 d)
  | .hidLocalReservedE8 d => some (shortItem 0xE8#8 d)
  | .hidLocalReservedF8 d => some (shortItem 0xF8#8 d)
  | .hidMainReserved00 d => some (shortItem 0x00#8 d)
  | .hidMainReserved10 d => some (shortItem 0x10#8 d)
  | .hidMainReserved20 d => some (shortItem 0x20#8 d)
  | .hidMainReserved30 d => some (shortItem 0x30#8 d)
  | .hidMainReserved40 d => some (shortItem 0x40#8 d)
  | .hidMainReserved50 d => some (shortItem 0x50#8 d)
  | .hidMainReserved60 d => some (shortItem 0x60#8 d)
  | .hidMainReserved70 d => some (shortItem 0x70#8 d)
  | .hidMainReservedD0 d => some (shortItem 0xD0#8 d)
  | .hidMainReservedE0 d => some (shortItem 0xE0#8 d)
  | .hidMainReservedF0 d => some (shortItem 0xF0#8 d)
  | .hidLongItem tag data => some (0xFE#8 :: BitVec.ofNat 8 data.length :: tag :: data)
  | .hidReservedType3 tag d => some (shortItem (tag ++ 0xC#4) d)
  | .usbMount _ _ _ _ | .usbReport _ _ _ | .usbUnmount _ _ | .enqueue _ _ | .poll _ _ | .phyRx _ _
  | .phyTxFail _
  | .onKeyTransition _ _ | .onMovement _ _ _ _ | .kbdRepeatFire | .kbdResetDone _ | .ledSync
  | .mouseEmitFire | .mouseResetDone _ => none

/-- The instruction is one that this stream can carry: its port, and the previous host byte its row's
context asks for (spec/opcode_table.json "context"; R143). -/
def Instr.admits (i : Instr) (src : Source) : Bool :=
  match i with
  | .frame _ => src == .codec
  | .hostResend p => match src with
    | .host q _ => p == q | .codec | .wire _ _ | .descriptor => false
  | .hostByteParityError p _ => match src with
    | .wire q _ => p == q | .codec | .host _ _ | .descriptor => false
  | .kbdLedParam _ => src == .host .kbd 0xED#8
  | .kbdSetParam _ => src == .host .kbd 0xF0#8
  | .kbdTypematicParam _ => src == .host .kbd 0xF3#8
  | .kbdSetLeds | .kbdEcho | .kbdScanSet | .kbdIdentify | .kbdSetTypematic | .kbdEnable
  | .kbdDisable | .kbdSetDefaults | .kbdReset | .kbdOther _ =>
    match src with
    | .host .kbd prev => !isKbdPrefix prev
    | .host .mouse _ | .codec | .wire _ _ | .descriptor => false
  | .mouseRateParam _ => src == .host .mouse 0xF3#8
  | .mouseStatus | .mouseReadData | .mouseGetId | .mouseSetRate | .mouseEnable | .mouseDisable
  | .mouseSetDefaults | .mouseReset | .mouseOther _ =>
    match src with
    | .host .mouse prev => !isMousePrefix prev
    | .host .kbd _ | .codec | .wire _ _ | .descriptor => false
  | .hidInput _ | .hidOutput _ | .hidFeature _ | .hidCollection _ | .hidEndCollection _
  | .hidUsagePage _ | .hidLogicalMin _ | .hidLogicalMax _ | .hidPhysicalMin _ | .hidPhysicalMax _
  | .hidUnitExponent _ | .hidUnit _ | .hidReportSize _ | .hidReportId _ | .hidReportCount _
  | .hidPush _ | .hidPop _ | .hidUsage _ | .hidUsageMin _ | .hidUsageMax _
  | .hidGlobalReservedC4 _ | .hidGlobalReservedD4 _ | .hidGlobalReservedE4 _
  | .hidGlobalReservedF4 _ | .hidDesignatorIndex _ | .hidDesignatorMin _ | .hidDesignatorMax _
  | .hidStringIndex _ | .hidStringMin _ | .hidStringMax _ | .hidDelimiter _
  | .hidLocalReserved68 _ | .hidLocalReservedB8 _ | .hidLocalReservedC8 _ | .hidLocalReservedD8 _
  | .hidLocalReservedE8 _ | .hidLocalReservedF8 _ | .hidMainReserved00 _ | .hidMainReserved10 _
  | .hidMainReserved20 _ | .hidMainReserved30 _ | .hidMainReserved40 _ | .hidMainReserved50 _
  | .hidMainReserved60 _ | .hidMainReserved70 _ | .hidMainReservedD0 _ | .hidMainReservedE0 _
  | .hidMainReservedF0 _ | .hidLongItem _ _ | .hidReservedType3 _ _ => src == .descriptor
  | .usbMount _ _ _ _ | .usbReport _ _ _ | .usbUnmount _ _ | .enqueue _ _ | .poll _ _ | .phyRx _ _
  | .phyTxFail _
  | .onKeyTransition _ _ | .onMovement _ _ _ _ | .kbdRepeatFire | .kbdResetDone _ | .ledSync
  | .mouseEmitFire | .mouseResetDone _ => false

/-! ## The host's word interface -/

/-- The `k` bytes of w, least significant first. -/
def bytesOfNat : Nat → Nat → List Byte
  | 0, _ => []
  | k + 1, w => BitVec.ofNat 8 w :: bytesOfNat k (w / 256)

/-- Where a word of the opcode table is read, and its bytes. The table's 8-bit words overlap: one byte
value is a keyboard command, a mouse command and an item header, told apart only by the stream it
arrives on, which `nbits` and `w` do not say. This function picks the first row in the table's order
whose fixed bits match: 0xFE and the keyboard commands, then the mouse commands, then descriptor items
(log 9). The bits above `nbits` are 0: a descriptor item is followed by the 258 zero bytes its data
may need. -/
def tableSource (nbits w : Nat) : Option (Source × List Byte) :=
  if (nbits = 11 ∨ nbits = 16) ∧ w < 2048 ∧ hasFrameBits (BitVec.ofNat 11 w) then
    some (.codec, bytesOfNat 2 w)
  else if nbits = 0 ∨ nbits % 8 ≠ 0 ∨ w ≥ 2 ^ nbits then none
  else
    let b := BitVec.ofNat 8 w
    if nbits = 8 ∧ (b = 0xFE#8 ∨ isKbdCommand b) then some (.host .kbd 0x00#8, [b])
    else if nbits = 8 ∧ isMouseCommand b then some (.host .mouse 0x00#8, [b])
    else some (.descriptor, bytesOfNat (nbits / 8) w ++ List.replicate 258 0x00#8)

/-- The instruction the decoder reads from a word of the opcode table (log 9). -/
def decodeTableWord (nbits w : Nat) : Option Instr :=
  match tableSource nbits w with
  | none => none
  | some (src, bytes) =>
    match decode src bytes with
    | .ok (i, _) => some i
    | .error _ => none

end Sys2Proof
end

