-- ==== Sys2Proof/Machine/Keyboard.lean ====
section
/-! DEFINITION. The keyboard protocol engine (44_keyboard) and its sequence builders
(45_keyboard_tables R480). The callbacks are the rules of 44_keyboard; the meaning of a host byte is
R235 around its callback (log 16). -/

namespace Sys2Proof.Machine

/-! ## Sequences -/

/-- The table entry of a usage: MOD_TABLE for a modifier, else SC2_TABLE (R480). -/
def keyEntry (c : Params) (u : Byte) : Option KeyCode :=
  if isModifier u then some (c.modTable.get (modIndex u)) else c.sc2Table.lookup u

/-- `[0xE0, c]` if extended, else `[c]` (R480). -/
def KeyCode.makeSeq (e : KeyCode) : List Byte := if e.ext then [0xE0#8, e.code] else [e.code]

/-- `[0xE0, 0xF0, c]` if extended, else `[0xF0, c]` (R480). -/
def KeyCode.breakSeq (e : KeyCode) : List Byte :=
  if e.ext then [0xE0#8, 0xF0#8, e.code] else [0xF0#8, e.code]

/-- `makeSeq(u)` (R480); a usage without an entry, which no rule asks for, has no bytes (log 12). -/
def makeSeq (c : Params) (u : Byte) : List Byte := ((keyEntry c u).map KeyCode.makeSeq).getD []

/-- `breakSeq(u)` (R480), as `makeSeq`. -/
def breakSeq (c : Params) (u : Byte) : List Byte := ((keyEntry c u).map KeyCode.breakSeq).getD []

/-! ## Key transitions -/

/-- The first repeat's deadline: `now + K.delayMs * 1000` (R351, R353). -/
def firstRepeat (s : State) : Nat := s.now + s.k.delayMs * 1000

/-- `modifierTransition` (R351), with the usage u = 0xE0 + n. -/
def modifierTransition (u : Byte) (pressed : Bool) (s : State) : State :=
  let s := s.setK { s.k with mods := setBit s.k.mods (modIndex u) pressed }
  if s.k.enabled then
    let s := enqueue .kbd (if pressed then makeSeq s.cfg u else breakSeq s.cfg u) s
    if s.cfg.modifierTypematic then
      if pressed then armRepeat u (firstRepeat s) s
      else if s.k.repeatKey = u then cancelRepeat s
      else s
    else s
  else s

/-- `pauseTransition` (R352). -/
def pauseTransition (pressed : Bool) (s : State) : State :=
  if pressed && s.k.enabled then
    if s.k.mods.getLsbD 0 || s.k.mods.getLsbD 4 then enqueue .kbd breakKeySeq s
    else enqueue .kbd pauseSeq s
  else s

/-- `keyTransition` (R353), u with an SC2_TABLE entry. -/
def keyTransition (u : Byte) (pressed : Bool) (s : State) : State :=
  if s.k.enabled then
    if pressed then
      let s := enqueue .kbd (makeSeq s.cfg u) s
      armRepeat u (firstRepeat s) s
    else
      let s := enqueue .kbd (breakSeq s.cfg u) s
      if s.k.repeatKey = u then cancelRepeat s else s
  else s

/-- `onKeyTransition(u, pressed)` (R350): modifiers, then Pause (0x48), then the keys of SC2_TABLE; any
other usage is unsupported (R443). -/
def onKeyTransition (u : Byte) (pressed : Bool) (s : State) : State :=
  if isModifier u then modifierTransition u pressed s
  else if u = 0x48#8 then pauseTransition pressed s
  else if (s.cfg.sc2Table.lookup u).isNone then s.raise (.keyUnsupported u)
  else keyTransition u pressed s

/-- onKeyTransition (R350). -/
def execOnKeyTransition (u : Byte) (pressed : Bool) (s : State) : StepResult :=
  .next (onKeyTransition u pressed s)

/-! ## Callbacks of host commands -/

/-- `Enqueue(0, [0xFA])`: the keyboard's ACK (R144). -/
def ackKbd (s : State) : State := enqueue .kbd [0xFA#8] s

/-- `restoreDefaults()` (R395). -/
def restoreDefaults (s : State) : State :=
  s.setK { s.k with
    delayMs := s.cfg.typematicDelayMs.get typematicDefaultDelay
    intervalUs := s.cfg.typematicIntervalUs.get typematicDefaultRate }

/-- `K.ledByte <- v; K.ledSyncPending <- true` (R366, R380, R381). -/
def setLeds (v : Byte) (s : State) : State :=
  s.setK { s.k with ledByte := v, ledSyncPending := true }

/-- `K.enabled <- b`. -/
def setScanning (b : Bool) (s : State) : State := s.setK { s.k with enabled := b }

/-- R365. -/
def onSetLeds (s : State) : State := ackKbd s

/-- R366: `ledParam(b)`. -/
def onLedParam (b : Byte) (s : State) : State :=
  ackKbd (setLeds (s.cfg.ledTable.get (ledIndex b)) s)

/-- R367: Echo, no ACK. -/
def onEcho (s : State) : State := enqueue .kbd [0xEE#8] s

/-- R368. -/
def onScanSet (s : State) : State := ackKbd s

/-- R369: `setParam(b)`; the value is not used. -/
def onSetParam (_b : Byte) (s : State) : State := ackKbd s

/-- R370: Identify, one packet. -/
def onIdentify (s : State) : State := enqueue .kbd [0xFA#8, 0xAB#8, 0x83#8] s

/-- R374. -/
def onSetTypematic (s : State) : State := ackKbd s

/-- R375: `typematicParam(b)`; a pending repeat keeps its deadline. -/
def onTypematicParam (b : Byte) (s : State) : State :=
  ackKbd (s.setK { s.k with
    intervalUs := s.cfg.typematicIntervalUs.get (rateIndex b)
    delayMs := s.cfg.typematicDelayMs.get (delayIndex b) })

/-- R376. -/
def onKbdEnable (s : State) : State := ackKbd (setScanning true s)

/-- R377. -/
def onKbdDisable (s : State) : State :=
  ackKbd (cancelRepeat (restoreDefaults (setScanning false s)))

/-- R378. -/
def onKbdSetDefaults (s : State) : State := ackKbd (restoreDefaults s)

/-- R379. -/
def onKbdOther (b : Byte) (s : State) : State := ackKbd (s.raise (.unknownCommand .kbd b))

/-- A Reset completion is due KBD_RESET_DELAY_MS from now (R380). -/
def scheduleKbdReset (s : State) : State :=
  s.setK { s.k with
    resetPending := insertDeadline (s.now + kbdResetDelayMs * 1000) s.k.resetPending }

/-- R380: the ACK first, then scanning off, the repeat cancelled, the defaults, all LEDs on, and one more
completion. -/
def onKbdReset (s : State) : State :=
  scheduleKbdReset (setLeds 0x07#8 (restoreDefaults (cancelRepeat (setScanning false (ackKbd s)))))

/-! ## Host commands (R235 with the callback) -/

/-- KBD_SET_LEDS (R365). -/
def execKbdSetLeds (s : State) : StepResult := .next (takeHostByte .kbd 0xED#8 onSetLeds s)
/-- KBD_ECHO (R367). -/
def execKbdEcho (s : State) : StepResult := .next (takeHostByte .kbd 0xEE#8 onEcho s)
/-- KBD_SCAN_SET (R368). -/
def execKbdScanSet (s : State) : StepResult := .next (takeHostByte .kbd 0xF0#8 onScanSet s)
/-- KBD_IDENTIFY (R370). -/
def execKbdIdentify (s : State) : StepResult := .next (takeHostByte .kbd 0xF2#8 onIdentify s)
/-- KBD_SET_TYPEMATIC (R374). -/
def execKbdSetTypematic (s : State) : StepResult := .next (takeHostByte .kbd 0xF3#8 onSetTypematic s)
/-- KBD_ENABLE (R376). -/
def execKbdEnable (s : State) : StepResult := .next (takeHostByte .kbd 0xF4#8 onKbdEnable s)
/-- KBD_DISABLE (R377). -/
def execKbdDisable (s : State) : StepResult := .next (takeHostByte .kbd 0xF5#8 onKbdDisable s)
/-- KBD_SET_DEFAULTS (R378). -/
def execKbdSetDefaults (s : State) : StepResult := .next (takeHostByte .kbd 0xF6#8 onKbdSetDefaults s)
/-- KBD_RESET (R380). -/
def execKbdReset (s : State) : StepResult := .next (takeHostByte .kbd 0xFF#8 onKbdReset s)
/-- KBD_LED_PARAM (R366). -/
def execKbdLedParam (b : Byte) (s : State) : StepResult := .next (takeHostByte .kbd b (onLedParam b) s)
/-- KBD_SET_PARAM (R369). -/
def execKbdSetParam (b : Byte) (s : State) : StepResult := .next (takeHostByte .kbd b (onSetParam b) s)
/-- KBD_TYPEMATIC_PARAM (R375). -/
def execKbdTypematicParam (b : Byte) (s : State) : StepResult :=
  .next (takeHostByte .kbd b (onTypematicParam b) s)
/-- KBD_OTHER (R379). -/
def execKbdOther (b : Byte) (s : State) : StepResult := .next (takeHostByte .kbd b (onKbdOther b) s)

/-! ## Timer steps

A timer step the service may not take yet (R520: "never before") leaves the state as it is (log 4). -/

/-- KbdRepeatFire (R356): re-emit the make sequence, and re-arm from the deadline. -/
def execKbdRepeatFire (s : State) : StepResult :=
  match s.k.repeatTimer with
  | none => .next s
  | some d =>
    if s.now < d then .next s
    else
      let s := if s.k.enabled then enqueue .kbd (makeSeq s.cfg s.k.repeatKey) s else s
      .next (s.setK { s.k with repeatTimer := some (d + s.k.intervalUs) })

/-- KbdResetDone (R381) for the due completion `d` (log 5). -/
def execKbdResetDone (d : Nat) (s : State) : StepResult :=
  if d ∈ s.k.resetPending ∧ d ≤ s.now then
    let s := s.setK { s.k with resetPending := s.k.resetPending.erase d }
    .next (setLeds 0x00#8 (setScanning true (enqueue .kbd [0xAA#8] s)))
  else .next s

/-- The LED reports of one LedSync, by rising index from i (R398). -/
def ledReports (v : Byte) : List HidInstance → Nat → List Output
  | [], _ => []
  | d :: rest, i =>
    if d.valid && d.ledsOwned then .usbLed i v :: ledReports v rest (i + 1)
    else ledReports v rest (i + 1)

/-- LedSync (R398), enabled while an LED sync is pending. -/
def execLedSync (s : State) : StepResult :=
  if s.k.ledSyncPending then
    let s := { s with out := s.out ++ ledReports s.k.ledByte s.dev 0 }
    .next (s.setK { s.k with ledSyncPending := false })
  else .next s

end Sys2Proof.Machine
end

