-- ==== Sys2Proof/Machine/Mouse.lean ====
section
/-! DEFINITION. The mouse protocol engine (46_mouse). -/

namespace Sys2Proof.Machine

/-! ## Movement -/

/-- `onMovement(buttons, dx, dy, wheel)` (R410): accumulate with wrap-around; a button change is never
idle-suppressed. -/
def onMovement (buttons : Byte) (dx dy wheel : Int) (s : State) : State :=
  let nb := buttons &&& 0x1F#8
  s.setM { s.m with
    wasMoving := if nb ≠ s.m.buttons then true else s.m.wasMoving
    buttons := nb
    accDx := BitVec.ofInt 16 (s.m.accDx.toInt + dx)
    accDy := BitVec.ofInt 16 (s.m.accDy.toInt + dy)
    accWheel := BitVec.ofInt 8 (s.m.accWheel.toInt + wheel) }

/-- onMovement (R410). -/
def execOnMovement (buttons : Byte) (dx dy wheel : Int) (s : State) : StepResult :=
  .next (onMovement buttons dx dy wheel s)

/-! ## Packets -/

/-- Byte 1 of a movement packet (R413): 0x08, the three buttons, the signs of x and y. -/
def packetByte1 (buttons : Byte) (cx cy : Int) : Byte :=
  0x08#8 ||| (buttons &&& 0x07#8) ||| (if cx < 0 then 0x10#8 else 0#8)
    ||| (if cy < 0 then 0x20#8 else 0#8)

/-- Byte 4 at level Explorer (R413): the wheel's low four bits and buttons 4 and 5. -/
def explorerByte4 (buttons : Byte) (cw : Int) : Byte :=
  (u8 cw &&& 0x0F#8) ||| (if buttons.getLsbD 3 then 0x10#8 else 0#8)
    ||| (if buttons.getLsbD 4 then 0x20#8 else 0#8)

/-- The packet of `buildPacket()` (R413): clamped deltas, y negated, the 0xAA bump (R415). -/
def movementPacket (m : Mouse) : List Byte :=
  let cx := clampInt m.accDx.toInt (-255) 255
  let cy := -(clampInt m.accDy.toInt (-255) 255)
  let cw := clampInt m.accWheel.toInt (-8) 7
  let b1 := packetByte1 m.buttons cx cy
  let b2 := bump (u8 cx)
  let b3 := bump (u8 cy)
  match m.level with
  | .standard => [b1, b2, b3]
  | .intelliMouse => [b1, b2, b3, u8 cw]
  | .explorer => [b1, b2, b3, explorerByte4 m.buttons cw]

/-- The accumulators `buildPacket()` leaves (R413, R416): the residual beyond the clamp; no wheel. -/
def afterPacket (m : Mouse) : Mouse :=
  { m with
    accDx := BitVec.ofInt 16 (m.accDx.toInt - clampInt m.accDx.toInt (-255) 255)
    accDy := BitVec.ofInt 16 (m.accDy.toInt - clampInt m.accDy.toInt (-255) 255)
    accWheel := 0#8 }

/-! ## Callbacks of host commands -/

/-- `Enqueue(1, [0xFA])`: the mouse's ACK (R145). -/
def ackMouse (s : State) : State := enqueue .mouse [0xFA#8] s

/-- R421: the fixed status reply. -/
def onStatus (s : State) : State := enqueue .mouse s.cfg.mouseStatusReply.toList s

/-- R422: Read data marks the mouse as moving. -/
def onReadData (s : State) : State := ackMouse (s.setM { s.m with wasMoving := true })

/-- R423. -/
def onGetId (s : State) : State := enqueue .mouse [0xFA#8, levelId s.m.level] s

/-- R424. -/
def onSetRate (s : State) : State := ackMouse s

/-- The level after a rate parameter has made the accumulator `magic` (R425, R432). -/
def upgradedLevel (l : Level) (magic : BitVec 24) : Level :=
  match l with
  | .standard => if magic = 0xC86450#24 then .intelliMouse else .standard
  | .intelliMouse => if magic = 0xC8C850#24 then .explorer else .intelliMouse
  | .explorer => .explorer

/-- R425: `rateParam(b)`; a rate of 0 is shifted in but not stored. -/
def onRateParam (b : Byte) (s : State) : State :=
  let magic := (s.m.magic <<< 8) ||| b.setWidth 24
  ackMouse (s.setM { s.m with
    magic := magic
    rate := if b ≠ 0x00#8 then b else s.m.rate
    level := upgradedLevel s.m.level magic })

/-- R426: enable streaming and (re)arm the tick. -/
def onMouseEnable (s : State) : State :=
  let s := s.setM { s.m with streaming := true }
  ackMouse (armEmit (s.now + emitInterval s.m.rate) s)

/-- `M.streaming <- false; Cancel(MouseEmit)` (R427, R429). -/
def stopStreaming (s : State) : State :=
  s.setM { s.m with streaming := false, emitTimer := none }

/-- R429. -/
def onMouseDisable (s : State) : State := ackMouse (stopStreaming s)

/-- R430. -/
def onMouseSetDefaults (s : State) : State :=
  ackMouse (s.setM { s.m with rate := sampleRateDefault })

/-- R427: the ACK first, then every field of M at its neutral value, and one more completion. -/
def onMouseReset (s : State) : State :=
  let s := ackMouse s
  s.setM {
    streaming := false
    level := .standard
    magic := 0#24
    rate := sampleRateDefault
    buttons := 0x00#8
    accDx := 0#16
    accDy := 0#16
    accWheel := 0#8
    wasMoving := false
    emitTimer := none
    resetPending := insertDeadline (s.now + s.cfg.mouseResetDelayMs * 1000) s.m.resetPending }

/-- R431: an unrecognized byte clears the accumulators. -/
def onMouseOther (b : Byte) (s : State) : State :=
  let s := s.raise (.unknownCommand .mouse b)
  ackMouse (s.setM { s.m with accDx := 0#16, accDy := 0#16, accWheel := 0#8 })

/-! ## Host commands (R235 with the callback) -/

/-- MOUSE_STATUS (R421). -/
def execMouseStatus (s : State) : StepResult := .next (takeHostByte .mouse 0xE9#8 onStatus s)
/-- MOUSE_READ_DATA (R422). -/
def execMouseReadData (s : State) : StepResult := .next (takeHostByte .mouse 0xEB#8 onReadData s)
/-- MOUSE_GET_ID (R423). -/
def execMouseGetId (s : State) : StepResult := .next (takeHostByte .mouse 0xF2#8 onGetId s)
/-- MOUSE_SET_RATE (R424). -/
def execMouseSetRate (s : State) : StepResult := .next (takeHostByte .mouse 0xF3#8 onSetRate s)
/-- MOUSE_ENABLE (R426). -/
def execMouseEnable (s : State) : StepResult := .next (takeHostByte .mouse 0xF4#8 onMouseEnable s)
/-- MOUSE_DISABLE (R429). -/
def execMouseDisable (s : State) : StepResult := .next (takeHostByte .mouse 0xF5#8 onMouseDisable s)
/-- MOUSE_SET_DEFAULTS (R430). -/
def execMouseSetDefaults (s : State) : StepResult :=
  .next (takeHostByte .mouse 0xF6#8 onMouseSetDefaults s)
/-- MOUSE_RESET (R427). -/
def execMouseReset (s : State) : StepResult := .next (takeHostByte .mouse 0xFF#8 onMouseReset s)
/-- MOUSE_RATE_PARAM (R425). -/
def execMouseRateParam (b : Byte) (s : State) : StepResult :=
  .next (takeHostByte .mouse b (onRateParam b) s)
/-- MOUSE_OTHER (R431). -/
def execMouseOther (b : Byte) (s : State) : StepResult :=
  .next (takeHostByte .mouse b (onMouseOther b) s)

/-! ## Timer steps (not due: log 4) -/

/-- MouseEmitFire (R412): re-arm from the deadline; suppressed when nothing is pending and the mouse was
at rest, else one packet. -/
def execMouseEmitFire (s : State) : StepResult :=
  match s.m.emitTimer with
  | none => .next s
  | some d =>
    if s.now < d then .next s
    else
      let s := armEmit (d + emitInterval s.m.rate) s
      let pending := movementPending s.m.accDx s.m.accDy s.m.accWheel
      if !pending && !s.m.wasMoving then .next s
      else
        let pk := movementPacket s.m
        let s := enqueue .mouse pk (s.setM (afterPacket s.m))
        .next (s.setM { s.m with wasMoving := pending })

/-- MouseResetDone (R428) for the due completion `d`: the level is read now (log 5). -/
def execMouseResetDone (d : Nat) (s : State) : StepResult :=
  if d ∈ s.m.resetPending ∧ d ≤ s.now then
    let s := s.setM { s.m with resetPending := s.m.resetPending.erase d }
    .next (enqueue .mouse [0xAA#8, levelId s.m.level] s)
  else .next s

end Sys2Proof.Machine
end

