-- ==== Sys2Proof/Machine/Transceiver.lean ====
section
/-! DEFINITION. The transceiver's producer side, PHY signals, and the two host frames it handles without
its engine (41_transceiver R221, R236, R237, R240, R241). The poll is in Machine/Poll.lean. -/

namespace Sys2Proof.Machine

/-- HOST_RESEND (R237): `lastTx` goes straight to the PHY; nothing of T[p] is written. -/
def execHostResend (p : Port) (s : State) : StepResult :=
  .next ((s.sendByte p (s.t p).lastTx).raise (.hostResend p))

/-- HOST_BYTE_PARITY_ERROR (R236): 0xFE goes straight to the PHY; the byte is discarded. -/
def execHostByteParityError (p : Port) (raw : Frame) (s : State) : StepResult :=
  .next ((s.sendByte p 0xFE#8).raise (.parityError p raw))

/-- Enqueue (R221). -/
def execEnqueue (p : Port) (bytes : List Byte) (s : State) : StepResult :=
  .next (enqueue p bytes s)

/-- PhyRx (R240): the received frame waits in rxFifo[p]. -/
def execPhyRx (p : Port) (raw : Frame) (s : State) : StepResult :=
  .next (s.setRx p (s.rx p ++ [raw]))

/-- PhyTxFail (R241): the failure latch is set. -/
def execPhyTxFail (p : Port) (s : State) : StepResult :=
  .next (s.setT p { s.t p with failLatch := true })

end Sys2Proof.Machine
end

