-- ==== Sys2Proof/Machine/Poll.lean ====
section
/-! DEFINITION. The poll of a port (R229): failure recovery, transmit or retire, then at most one
received frame, decoded by the port and the previous host byte (R143) and run. -/

namespace Sys2Proof.Machine

/-- Poll step 1 (R230): a latched failure steps the byte index back by one, not below 0. -/
def pollRecover (p : Port) (s : State) : State :=
  if (s.t p).failLatch then
    (s.setT p { s.t p with bytesSent := (s.t p).bytesSent - 1, failLatch := false }).raise (.txFail p)
  else s

/-- Poll step 2's send of byte b (R231): count it, remember it, hand it to the PHY, arm the backoff. -/
def sendNext (p : Port) (b : Byte) (s : State) : State :=
  (s.setT p { s.t p with
    bytesSent := (s.t p).bytesSent + 1
    lastTx := b
    busyUntil := s.now + s.cfg.backoffUs }).sendByte p b

/-- Poll step 2's pop of the finished head packet (R231). -/
def popHead (p : Port) (s : State) : State :=
  s.setT p { s.t p with queue := (s.t p).queue.tail, bytesSent := 0 }

/-- Poll step 2 (R231): when not backing off and the line is idle, send the head packet's next byte, or
pop the packet when none is left (log 11). -/
def pollTransmit (p : Port) (lineIdle : Bool) (s : State) : State :=
  if (s.t p).busyUntil ≤ s.now && lineIdle then
    match (s.t p).queue with
    | [] => s
    | pk :: _ =>
      match pk[(s.t p).bytesSent]? with
      | some b => sendNext p b s
      | none => popHead p s
  else s

/-- Run the instruction a received frame holds. Other instructions are not received from a host. -/
def runHost (i : Instr) (s : State) : StepResult :=
  match i with
  | .hostResend p => execHostResend p s
  | .hostByteParityError p raw => execHostByteParityError p raw s
  | .kbdSetLeds => execKbdSetLeds s
  | .kbdEcho => execKbdEcho s
  | .kbdScanSet => execKbdScanSet s
  | .kbdIdentify => execKbdIdentify s
  | .kbdSetTypematic => execKbdSetTypematic s
  | .kbdEnable => execKbdEnable s
  | .kbdDisable => execKbdDisable s
  | .kbdSetDefaults => execKbdSetDefaults s
  | .kbdReset => execKbdReset s
  | .kbdLedParam b => execKbdLedParam b s
  | .kbdSetParam b => execKbdSetParam b s
  | .kbdTypematicParam b => execKbdTypematicParam b s
  | .kbdOther b => execKbdOther b s
  | .mouseStatus => execMouseStatus s
  | .mouseReadData => execMouseReadData s
  | .mouseGetId => execMouseGetId s
  | .mouseSetRate => execMouseSetRate s
  | .mouseEnable => execMouseEnable s
  | .mouseDisable => execMouseDisable s
  | .mouseSetDefaults => execMouseSetDefaults s
  | .mouseReset => execMouseReset s
  | .mouseRateParam b => execMouseRateParam b s
  | .mouseOther b => execMouseOther b s
  | .frame _ | .hidInput _ | .hidOutput _ | .hidFeature _ | .hidCollection _
  | .hidEndCollection _ | .hidUsagePage _ | .hidLogicalMin _ | .hidLogicalMax _
  | .hidPhysicalMin _ | .hidPhysicalMax _ | .hidUnitExponent _ | .hidUnit _ | .hidReportSize _
  | .hidReportId _ | .hidReportCount _ | .hidPush _ | .hidPop _ | .hidUsage _ | .hidUsageMin _
  | .hidUsageMax _ | .hidGlobalReservedC4 _ | .hidGlobalReservedD4 _ | .hidGlobalReservedE4 _
  | .hidGlobalReservedF4 _ | .hidDesignatorIndex _ | .hidDesignatorMin _ | .hidDesignatorMax _
  | .hidStringIndex _ | .hidStringMin _ | .hidStringMax _ | .hidDelimiter _
  | .hidLocalReserved68 _ | .hidLocalReservedB8 _ | .hidLocalReservedC8 _ | .hidLocalReservedD8 _
  | .hidLocalReservedE8 _ | .hidLocalReservedF8 _ | .hidMainReserved00 _ | .hidMainReserved10 _
  | .hidMainReserved20 _ | .hidMainReserved30 _ | .hidMainReserved40 _ | .hidMainReserved50 _
  | .hidMainReserved60 _ | .hidMainReserved70 _ | .hidMainReservedD0 _ | .hidMainReservedE0 _
  | .hidMainReservedF0 _ | .hidLongItem _ _ | .hidReservedType3 _ _ | .usbMount _ _ _ _
  | .usbReport _ _ _ | .usbUnmount _ _ | .enqueue _ _ | .poll _ _ | .phyRx _ _ | .phyTxFail _
  | .onKeyTransition _ _ | .onMovement _ _ _ _ | .kbdRepeatFire | .kbdResetDone _ | .ledSync
  | .mouseEmitFire | .mouseResetDone _ => .next s

/-- Poll step 3 (R234 to R237): take one received frame, decode it after `lastRx`, run it. -/
def pollReceive (p : Port) (s : State) : StepResult :=
  match s.rx p with
  | [] => .next s
  | raw :: rest => runHost (decodeWire p (s.t p).lastRx raw) (s.setRx p rest)

/-- Poll (R229): steps 1, 2, 3 in one call. -/
def execPoll (p : Port) (lineIdle : Bool) (s : State) : StepResult :=
  pollReceive p (pollTransmit p lineIdle (pollRecover p s))

end Sys2Proof.Machine
end

