-- ==== Sys2Proof/Machine/Parser.lean ====
section
/-! DEFINITION. The HID report-descriptor interpreter (42_hid_parser): what each item does to the
interpreter state (R55) and the walk over a descriptor (R260). An item's pure effect is `hid<Item>`; the
instruction's meaning `execHid<Item>` is that effect, and the walk runs the same function. -/

namespace Sys2Proof.Machine

/-! ## Operations on the interpreter state -/

/-- "Clear locals" (R283). -/
def Parser.clearLocals (q : Parser) : Parser :=
  { q with lUsages := [], lUsageMin := none, lUsageMax := none }

/-- `off[k]` (R55). -/
def Parser.off (q : Parser) (k : ItemKind) : Nat :=
  match k with
  | .input => q.offIn
  | .output => q.offOut
  | .feature => q.offFeat

/-- `off[k] <- n`. -/
def Parser.setOff (q : Parser) (k : ItemKind) (n : Nat) : Parser :=
  match k with
  | .input => { q with offIn := n }
  | .output => { q with offOut := n }
  | .feature => { q with offFeat := n }

/-- `usageFor(i)` (R281): the i-th queued usage, then the last one again, 0 if there is none. -/
def usageFor (usages : List Usage) (i : Nat) : Usage :=
  match usages[i]? with
  | some u => u
  | none => usages.getLastD 0#16

/-- The i-th field a Main data item of kind k creates (R280). -/
def Parser.newField (q : Parser) (k : ItemKind) (i : Nat) : Field where
  bitOffset := BitVec.ofNat 16 (q.off k + i * q.gReportSize.toNat)
  bitWidth := q.gReportSize
  itemKind := k
  usagePage := q.gUsagePage
  usage := usageFor q.lUsages i
  logicalMin := q.gLogMin
  logicalMax := q.gLogMax

/-- How many more fields `cur` can hold (R282). -/
def Parser.room (q : Parser) : Nat := fieldMax - q.cur.fields.length

/-- The fields of a Main data item: of the gReportCount fields, those that find room in `cur`, in order
(R280, R282). -/
def Parser.newFields (q : Parser) (k : ItemKind) : List Field :=
  (List.range (min q.gReportCount q.room)).map (q.newField k)

/-- The interpreter state after a Main data item (R280): fields unless Constant, the offset of its kind
advanced by c*w, the locals cleared. -/
def Parser.mainData (q : Parser) (k : ItemKind) (d : ItemData) : Parser :=
  let fields := if (itemUnsigned d).getLsbD 0 then q.cur.fields else q.cur.fields ++ q.newFields k
  ({ q with cur := { q.cur with fields := fields } }.setOff k
    (q.off k + q.gReportCount * q.gReportSize.toNat)).clearLocals

/-- A Main data item loses fields: it is not Constant and more are asked for than find room (R280). -/
def Parser.losesFields (q : Parser) (d : ItemData) : Bool :=
  !(itemUnsigned d).getLsbD 0 && decide (q.room < q.gReportCount)

/-- Input, Output and Feature (R280), with `DescFieldsTruncated` at the item's own position (log 8). -/
def mainData (k : ItemKind) (d : ItemData) (s : State) : State :=
  let s' := s.setParser (s.parser.mainData k d)
  if s.parser.losesFields d then s'.raise (.descFieldsTruncated s.parser.pos) else s'

/-- The usages a .. b (R278). -/
def usageRange (a b : Usage) : List Usage :=
  (List.range (b.toNat + 1 - a.toNat)).map (fun i => BitVec.ofNat 16 (a.toNat + i))

/-- As soon as Usage Minimum and Maximum are both set, their range joins the queue (R278). -/
def Parser.expandRange (q : Parser) : Parser :=
  match q.lUsageMin, q.lUsageMax with
  | some a, some b =>
    { q with
      lUsages := if a.toNat ≤ b.toNat then q.lUsages ++ usageRange a b else q.lUsages
      lUsageMin := none
      lUsageMax := none }
  | _, _ => q

/-- Collection (R284): at depth 0 the report takes its top usage. -/
def Parser.openCollection (q : Parser) : Parser :=
  let cur := if q.depth = 0 then
      { q.cur with topUsagePage := q.gUsagePage, topUsage := q.lUsages.headD 0#16 }
    else q.cur
  { q with cur := cur, depth := q.depth + 1 }.clearLocals

/-- A depth-0 pair closes one logical report (R285). The table never passes REPORT_MAX, where the walk
has stopped (R264; log 13). -/
def Parser.closeReport (q : Parser) : Parser :=
  { q with
    table := if q.table.length < reportMax then q.table ++ [{ q.cur with reportId := q.gReportId }]
      else q.table
    cur := Report.empty
    offIn := 0
    offOut := 0
    offFeat := 0 }

/-- End Collection (R285). -/
def Parser.endCollection (q : Parser) : Parser :=
  if q.depth = 0 then q.clearLocals
  else if q.depth = 1 then { q.closeReport with depth := 0 }.clearLocals
  else { q with depth := q.depth - 1 }.clearLocals

/-! ## The items -/

/-- HID_INPUT (R280). -/
def hidInput (d : ItemData) (s : State) : State := mainData .input d s

/-- HID_OUTPUT (R280). -/
def hidOutput (d : ItemData) (s : State) : State := mainData .output d s

/-- HID_FEATURE (R280). -/
def hidFeature (d : ItemData) (s : State) : State := mainData .feature d s

/-- HID_COLLECTION (R284). -/
def hidCollection (_d : ItemData) (s : State) : State := s.setParser s.parser.openCollection

/-- HID_END_COLLECTION (R285). -/
def hidEndCollection (_d : ItemData) (s : State) : State := s.setParser s.parser.endCollection

/-- HID_USAGE_PAGE (R270). -/
def hidUsagePage (d : ItemData) (s : State) : State :=
  s.setParser { s.parser with gUsagePage := (itemUnsigned d).setWidth 16 }

/-- HID_LOGICAL_MIN (R271). -/
def hidLogicalMin (d : ItemData) (s : State) : State :=
  s.setParser { s.parser with gLogMin := itemSigned d }

/-- HID_LOGICAL_MAX (R272). -/
def hidLogicalMax (d : ItemData) (s : State) : State :=
  s.setParser { s.parser with gLogMax := itemSigned d }

/-- HID_PHYSICAL_MIN (R276): changes no interpreter state. -/
def hidPhysicalMin (_d : ItemData) (s : State) : State := s

/-- HID_PHYSICAL_MAX (R276): changes no interpreter state. -/
def hidPhysicalMax (_d : ItemData) (s : State) : State := s

/-- HID_UNIT_EXPONENT (R276): changes no interpreter state. -/
def hidUnitExponent (_d : ItemData) (s : State) : State := s

/-- HID_UNIT (R276): changes no interpreter state. -/
def hidUnit (_d : ItemData) (s : State) : State := s

/-- HID_REPORT_SIZE (R273). -/
def hidReportSize (d : ItemData) (s : State) : State :=
  s.setParser { s.parser with gReportSize := (itemUnsigned d).setWidth 8 }

/-- HID_REPORT_ID (R274). -/
def hidReportId (d : ItemData) (s : State) : State :=
  s.setParser { s.parser with gReportId := (itemUnsigned d).setWidth 8 }

/-- HID_REPORT_COUNT (R275). -/
def hidReportCount (d : ItemData) (s : State) : State :=
  s.setParser { s.parser with gReportCount := (itemUnsigned d).toNat }

/-- HID_PUSH (R276): changes no interpreter state. -/
def hidPush (_d : ItemData) (s : State) : State := s

/-- HID_POP (R276): changes no interpreter state. -/
def hidPop (_d : ItemData) (s : State) : State := s

/-- HID_USAGE (R277). -/
def hidUsage (d : ItemData) (s : State) : State :=
  s.setParser { s.parser with lUsages := s.parser.lUsages ++ [(itemUnsigned d).setWidth 16] }

/-- HID_USAGE_MIN (R278). -/
def hidUsageMin (d : ItemData) (s : State) : State :=
  s.setParser { s.parser with lUsageMin := some ((itemUnsigned d).setWidth 16) }.expandRange

/-- HID_USAGE_MAX (R278). -/
def hidUsageMax (d : ItemData) (s : State) : State :=
  s.setParser { s.parser with lUsageMax := some ((itemUnsigned d).setWidth 16) }.expandRange

/-- HID_GLOBAL_RESERVED_C4 (R276): changes no interpreter state. -/
def hidGlobalReservedC4 (_d : ItemData) (s : State) : State := s

/-- HID_GLOBAL_RESERVED_D4 (R276): changes no interpreter state. -/
def hidGlobalReservedD4 (_d : ItemData) (s : State) : State := s

/-- HID_GLOBAL_RESERVED_E4 (R276): changes no interpreter state. -/
def hidGlobalReservedE4 (_d : ItemData) (s : State) : State := s

/-- HID_GLOBAL_RESERVED_F4 (R276): changes no interpreter state. -/
def hidGlobalReservedF4 (_d : ItemData) (s : State) : State := s

/-- HID_DESIGNATOR_INDEX (R279): changes no interpreter state. -/
def hidDesignatorIndex (_d : ItemData) (s : State) : State := s

/-- HID_DESIGNATOR_MIN (R279): changes no interpreter state. -/
def hidDesignatorMin (_d : ItemData) (s : State) : State := s

/-- HID_DESIGNATOR_MAX (R279): changes no interpreter state. -/
def hidDesignatorMax (_d : ItemData) (s : State) : State := s

/-- HID_STRING_INDEX (R279): changes no interpreter state. -/
def hidStringIndex (_d : ItemData) (s : State) : State := s

/-- HID_STRING_MIN (R279): changes no interpreter state. -/
def hidStringMin (_d : ItemData) (s : State) : State := s

/-- HID_STRING_MAX (R279): changes no interpreter state. -/
def hidStringMax (_d : ItemData) (s : State) : State := s

/-- HID_DELIMITER (R279): changes no interpreter state. -/
def hidDelimiter (_d : ItemData) (s : State) : State := s

/-- HID_LOCAL_RESERVED_68 (R279): changes no interpreter state. -/
def hidLocalReserved68 (_d : ItemData) (s : State) : State := s

/-- HID_LOCAL_RESERVED_B8 (R279): changes no interpreter state. -/
def hidLocalReservedB8 (_d : ItemData) (s : State) : State := s

/-- HID_LOCAL_RESERVED_C8 (R279): changes no interpreter state. -/
def hidLocalReservedC8 (_d : ItemData) (s : State) : State := s

/-- HID_LOCAL_RESERVED_D8 (R279): changes no interpreter state. -/
def hidLocalReservedD8 (_d : ItemData) (s : State) : State := s

/-- HID_LOCAL_RESERVED_E8 (R279): changes no interpreter state. -/
def hidLocalReservedE8 (_d : ItemData) (s : State) : State := s

/-- HID_LOCAL_RESERVED_F8 (R279): changes no interpreter state. -/
def hidLocalReservedF8 (_d : ItemData) (s : State) : State := s

/-- HID_MAIN_RESERVED_00 (R286): only clears the locals. -/
def hidMainReserved00 (_d : ItemData) (s : State) : State := s.setParser s.parser.clearLocals

/-- HID_MAIN_RESERVED_10 (R286): only clears the locals. -/
def hidMainReserved10 (_d : ItemData) (s : State) : State := s.setParser s.parser.clearLocals

/-- HID_MAIN_RESERVED_20 (R286): only clears the locals. -/
def hidMainReserved20 (_d : ItemData) (s : State) : State := s.setParser s.parser.clearLocals

/-- HID_MAIN_RESERVED_30 (R286): only clears the locals. -/
def hidMainReserved30 (_d : ItemData) (s : State) : State := s.setParser s.parser.clearLocals

/-- HID_MAIN_RESERVED_40 (R286): only clears the locals. -/
def hidMainReserved40 (_d : ItemData) (s : State) : State := s.setParser s.parser.clearLocals

/-- HID_MAIN_RESERVED_50 (R286): only clears the locals. -/
def hidMainReserved50 (_d : ItemData) (s : State) : State := s.setParser s.parser.clearLocals

/-- HID_MAIN_RESERVED_60 (R286): only clears the locals. -/
def hidMainReserved60 (_d : ItemData) (s : State) : State := s.setParser s.parser.clearLocals

/-- HID_MAIN_RESERVED_70 (R286): only clears the locals. -/
def hidMainReserved70 (_d : ItemData) (s : State) : State := s.setParser s.parser.clearLocals

/-- HID_MAIN_RESERVED_D0 (R286): only clears the locals. -/
def hidMainReservedD0 (_d : ItemData) (s : State) : State := s.setParser s.parser.clearLocals

/-- HID_MAIN_RESERVED_E0 (R286): only clears the locals. -/
def hidMainReservedE0 (_d : ItemData) (s : State) : State := s.setParser s.parser.clearLocals

/-- HID_MAIN_RESERVED_F0 (R286): only clears the locals. -/
def hidMainReservedF0 (_d : ItemData) (s : State) : State := s.setParser s.parser.clearLocals

/-- HID_LONG_ITEM (R263): changes no interpreter state. -/
def hidLongItem (_tag : Byte) (_data : List Byte) (s : State) : State := s

/-- HID_RESERVED_TYPE3 (R287): changes no interpreter state. -/
def hidReservedType3 (_tag : BitVec 4) (_d : ItemData) (s : State) : State := s

/-! ## The meanings -/

/-- HID_INPUT (R280). -/
def execHidInput (d : ItemData) (s : State) : StepResult := .next (hidInput d s)

/-- HID_OUTPUT (R280). -/
def execHidOutput (d : ItemData) (s : State) : StepResult := .next (hidOutput d s)

/-- HID_FEATURE (R280). -/
def execHidFeature (d : ItemData) (s : State) : StepResult := .next (hidFeature d s)

/-- HID_COLLECTION (R284). -/
def execHidCollection (d : ItemData) (s : State) : StepResult := .next (hidCollection d s)

/-- HID_END_COLLECTION (R285). -/
def execHidEndCollection (d : ItemData) (s : State) : StepResult := .next (hidEndCollection d s)

/-- HID_USAGE_PAGE (R270). -/
def execHidUsagePage (d : ItemData) (s : State) : StepResult := .next (hidUsagePage d s)

/-- HID_LOGICAL_MIN (R271). -/
def execHidLogicalMin (d : ItemData) (s : State) : StepResult := .next (hidLogicalMin d s)

/-- HID_LOGICAL_MAX (R272). -/
def execHidLogicalMax (d : ItemData) (s : State) : StepResult := .next (hidLogicalMax d s)

/-- HID_PHYSICAL_MIN (R276). -/
def execHidPhysicalMin (d : ItemData) (s : State) : StepResult := .next (hidPhysicalMin d s)

/-- HID_PHYSICAL_MAX (R276). -/
def execHidPhysicalMax (d : ItemData) (s : State) : StepResult := .next (hidPhysicalMax d s)

/-- HID_UNIT_EXPONENT (R276). -/
def execHidUnitExponent (d : ItemData) (s : State) : StepResult := .next (hidUnitExponent d s)

/-- HID_UNIT (R276). -/
def execHidUnit (d : ItemData) (s : State) : StepResult := .next (hidUnit d s)

/-- HID_REPORT_SIZE (R273). -/
def execHidReportSize (d : ItemData) (s : State) : StepResult := .next (hidReportSize d s)

/-- HID_REPORT_ID (R274). -/
def execHidReportId (d : ItemData) (s : State) : StepResult := .next (hidReportId d s)

/-- HID_REPORT_COUNT (R275). -/
def execHidReportCount (d : ItemData) (s : State) : StepResult := .next (hidReportCount d s)

/-- HID_PUSH (R276). -/
def execHidPush (d : ItemData) (s : State) : StepResult := .next (hidPush d s)

/-- HID_POP (R276). -/
def execHidPop (d : ItemData) (s : State) : StepResult := .next (hidPop d s)

/-- HID_USAGE (R277). -/
def execHidUsage (d : ItemData) (s : State) : StepResult := .next (hidUsage d s)

/-- HID_USAGE_MIN (R278). -/
def execHidUsageMin (d : ItemData) (s : State) : StepResult := .next (hidUsageMin d s)

/-- HID_USAGE_MAX (R278). -/
def execHidUsageMax (d : ItemData) (s : State) : StepResult := .next (hidUsageMax d s)

/-- HID_GLOBAL_RESERVED_C4 (R276). -/
def execHidGlobalReservedC4 (d : ItemData) (s : State) : StepResult :=
  .next (hidGlobalReservedC4 d s)

/-- HID_GLOBAL_RESERVED_D4 (R276). -/
def execHidGlobalReservedD4 (d : ItemData) (s : State) : StepResult :=
  .next (hidGlobalReservedD4 d s)

/-- HID_GLOBAL_RESERVED_E4 (R276). -/
def execHidGlobalReservedE4 (d : ItemData) (s : State) : StepResult :=
  .next (hidGlobalReservedE4 d s)

/-- HID_GLOBAL_RESERVED_F4 (R276). -/
def execHidGlobalReservedF4 (d : ItemData) (s : State) : StepResult :=
  .next (hidGlobalReservedF4 d s)

/-- HID_DESIGNATOR_INDEX (R279). -/
def execHidDesignatorIndex (d : ItemData) (s : State) : StepResult := .next (hidDesignatorIndex d s)

/-- HID_DESIGNATOR_MIN (R279). -/
def execHidDesignatorMin (d : ItemData) (s : State) : StepResult := .next (hidDesignatorMin d s)

/-- HID_DESIGNATOR_MAX (R279). -/
def execHidDesignatorMax (d : ItemData) (s : State) : StepResult := .next (hidDesignatorMax d s)

/-- HID_STRING_INDEX (R279). -/
def execHidStringIndex (d : ItemData) (s : State) : StepResult := .next (hidStringIndex d s)

/-- HID_STRING_MIN (R279). -/
def execHidStringMin (d : ItemData) (s : State) : StepResult := .next (hidStringMin d s)

/-- HID_STRING_MAX (R279). -/
def execHidStringMax (d : ItemData) (s : State) : StepResult := .next (hidStringMax d s)

/-- HID_DELIMITER (R279). -/
def execHidDelimiter (d : ItemData) (s : State) : StepResult := .next (hidDelimiter d s)

/-- HID_LOCAL_RESERVED_68 (R279). -/
def execHidLocalReserved68 (d : ItemData) (s : State) : StepResult := .next (hidLocalReserved68 d s)

/-- HID_LOCAL_RESERVED_B8 (R279). -/
def execHidLocalReservedB8 (d : ItemData) (s : State) : StepResult := .next (hidLocalReservedB8 d s)

/-- HID_LOCAL_RESERVED_C8 (R279). -/
def execHidLocalReservedC8 (d : ItemData) (s : State) : StepResult := .next (hidLocalReservedC8 d s)

/-- HID_LOCAL_RESERVED_D8 (R279). -/
def execHidLocalReservedD8 (d : ItemData) (s : State) : StepResult := .next (hidLocalReservedD8 d s)

/-- HID_LOCAL_RESERVED_E8 (R279). -/
def execHidLocalReservedE8 (d : ItemData) (s : State) : StepResult := .next (hidLocalReservedE8 d s)

/-- HID_LOCAL_RESERVED_F8 (R279). -/
def execHidLocalReservedF8 (d : ItemData) (s : State) : StepResult := .next (hidLocalReservedF8 d s)

/-- HID_MAIN_RESERVED_00 (R286). -/
def execHidMainReserved00 (d : ItemData) (s : State) : StepResult := .next (hidMainReserved00 d s)

/-- HID_MAIN_RESERVED_10 (R286). -/
def execHidMainReserved10 (d : ItemData) (s : State) : StepResult := .next (hidMainReserved10 d s)

/-- HID_MAIN_RESERVED_20 (R286). -/
def execHidMainReserved20 (d : ItemData) (s : State) : StepResult := .next (hidMainReserved20 d s)

/-- HID_MAIN_RESERVED_30 (R286). -/
def execHidMainReserved30 (d : ItemData) (s : State) : StepResult := .next (hidMainReserved30 d s)

/-- HID_MAIN_RESERVED_40 (R286). -/
def execHidMainReserved40 (d : ItemData) (s : State) : StepResult := .next (hidMainReserved40 d s)

/-- HID_MAIN_RESERVED_50 (R286). -/
def execHidMainReserved50 (d : ItemData) (s : State) : StepResult := .next (hidMainReserved50 d s)

/-- HID_MAIN_RESERVED_60 (R286). -/
def execHidMainReserved60 (d : ItemData) (s : State) : StepResult := .next (hidMainReserved60 d s)

/-- HID_MAIN_RESERVED_70 (R286). -/
def execHidMainReserved70 (d : ItemData) (s : State) : StepResult := .next (hidMainReserved70 d s)

/-- HID_MAIN_RESERVED_D0 (R286). -/
def execHidMainReservedD0 (d : ItemData) (s : State) : StepResult := .next (hidMainReservedD0 d s)

/-- HID_MAIN_RESERVED_E0 (R286). -/
def execHidMainReservedE0 (d : ItemData) (s : State) : StepResult := .next (hidMainReservedE0 d s)

/-- HID_MAIN_RESERVED_F0 (R286). -/
def execHidMainReservedF0 (d : ItemData) (s : State) : StepResult := .next (hidMainReservedF0 d s)

/-- HID_LONG_ITEM (R263). -/
def execHidLongItem (tag : Byte) (data : List Byte) (s : State) : StepResult :=
  .next (hidLongItem tag data s)

/-- HID_RESERVED_TYPE3 (R287). -/
def execHidReservedType3 (tag : BitVec 4) (d : ItemData) (s : State) : StepResult :=
  .next (hidReservedType3 tag d s)

/-! ## The walk -/

/-- Execute one decoded item. Instructions that are no descriptor items do not occur in a descriptor. -/
def runItem (i : Instr) (s : State) : State :=
  match i with
  | .hidInput d => hidInput d s
  | .hidOutput d => hidOutput d s
  | .hidFeature d => hidFeature d s
  | .hidCollection d => hidCollection d s
  | .hidEndCollection d => hidEndCollection d s
  | .hidUsagePage d => hidUsagePage d s
  | .hidLogicalMin d => hidLogicalMin d s
  | .hidLogicalMax d => hidLogicalMax d s
  | .hidPhysicalMin d => hidPhysicalMin d s
  | .hidPhysicalMax d => hidPhysicalMax d s
  | .hidUnitExponent d => hidUnitExponent d s
  | .hidUnit d => hidUnit d s
  | .hidReportSize d => hidReportSize d s
  | .hidReportId d => hidReportId d s
  | .hidReportCount d => hidReportCount d s
  | .hidPush d => hidPush d s
  | .hidPop d => hidPop d s
  | .hidUsage d => hidUsage d s
  | .hidUsageMin d => hidUsageMin d s
  | .hidUsageMax d => hidUsageMax d s
  | .hidGlobalReservedC4 d => hidGlobalReservedC4 d s
  | .hidGlobalReservedD4 d => hidGlobalReservedD4 d s
  | .hidGlobalReservedE4 d => hidGlobalReservedE4 d s
  | .hidGlobalReservedF4 d => hidGlobalReservedF4 d s
  | .hidDesignatorIndex d => hidDesignatorIndex d s
  | .hidDesignatorMin d => hidDesignatorMin d s
  | .hidDesignatorMax d => hidDesignatorMax d s
  | .hidStringIndex d => hidStringIndex d s
  | .hidStringMin d => hidStringMin d s
  | .hidStringMax d => hidStringMax d s
  | .hidDelimiter d => hidDelimiter d s
  | .hidLocalReserved68 d => hidLocalReserved68 d s
  | .hidLocalReservedB8 d => hidLocalReservedB8 d s
  | .hidLocalReservedC8 d => hidLocalReservedC8 d s
  | .hidLocalReservedD8 d => hidLocalReservedD8 d s
  | .hidLocalReservedE8 d => hidLocalReservedE8 d s
  | .hidLocalReservedF8 d => hidLocalReservedF8 d s
  | .hidMainReserved00 d => hidMainReserved00 d s
  | .hidMainReserved10 d => hidMainReserved10 d s
  | .hidMainReserved20 d => hidMainReserved20 d s
  | .hidMainReserved30 d => hidMainReserved30 d s
  | .hidMainReserved40 d => hidMainReserved40 d s
  | .hidMainReserved50 d => hidMainReserved50 d s
  | .hidMainReserved60 d => hidMainReserved60 d s
  | .hidMainReserved70 d => hidMainReserved70 d s
  | .hidMainReservedD0 d => hidMainReservedD0 d s
  | .hidMainReservedE0 d => hidMainReservedE0 d s
  | .hidMainReservedF0 d => hidMainReservedF0 d s
  | .hidLongItem tag data => hidLongItem tag data s
  | .hidReservedType3 tag d => hidReservedType3 tag d s
  | .frame _ | .hostResend _ | .hostByteParityError _ _ | .kbdSetLeds | .kbdEcho | .kbdScanSet
  | .kbdIdentify | .kbdSetTypematic | .kbdEnable | .kbdDisable | .kbdSetDefaults | .kbdReset
  | .kbdLedParam _ | .kbdSetParam _ | .kbdTypematicParam _ | .kbdOther _ | .mouseStatus
  | .mouseReadData | .mouseGetId | .mouseSetRate | .mouseEnable | .mouseDisable
  | .mouseSetDefaults | .mouseReset | .mouseRateParam _ | .mouseOther _ | .usbMount _ _ _ _
  | .usbReport _ _ _ | .usbUnmount _ _ | .enqueue _ _ | .poll _ _ | .phyRx _ _ | .phyTxFail _
  | .onKeyTransition _ _ | .onMovement _ _ _ _ | .kbdRepeatFire | .kbdResetDone _ | .ledSync
  | .mouseEmitFire | .mouseResetDone _ => s

/-- `pos <- pos + n`, after the item (log 8). -/
def advancePos (n : Nat) (s : State) : State :=
  s.setParser { s.parser with pos := s.parser.pos + n }

/-- An item that runs past the end of the descriptor (R262). -/
def itemTruncated (s : State) : State := s.raise (.descMalformed s.parser.pos)

/-- The table holds REPORT_MAX reports: the walk ends, and says so if bytes are left (R260, R264). -/
def stopAtReportMax (rest : List Byte) (s : State) : State :=
  if rest = [] then s else s.raise (.descReportsTruncated s.parser.pos)

/-- The walk of R260 over the bytes still to read; the first argument bounds the number of items. -/
def walk : Nat → List Byte → State → State
  | 0, _, s => s
  | n + 1, bytes, s =>
    match bytes with
    | [] => s
    | b :: bs =>
      match decodeItem (b :: bs) with
      | .error _ => itemTruncated s
      | .ok (i, rest) =>
        let s' := advancePos ((b :: bs).length - rest.length) (runItem i s)
        if s'.parser.table.length = reportMax then stopAtReportMax rest s'
        else walk n rest s'

/-- `parse(desc)` (R260): from the initial interpreter state, walk the whole descriptor. The result is
the interpreter's table of closed reports (R288); conditions are in the log. An item has at least one
byte, so `desc.length` items are enough. -/
def parse (desc : List Byte) (s : State) : State :=
  walk desc.length desc (s.setParser Parser.init)

end Sys2Proof.Machine
end

