-- ==== Sys2Proof/Machine/Usb.lean ====
section
/-! DEFINITION. HID report dispatch (43_hid_dispatch): mount, report, unmount. -/

namespace Sys2Proof.Machine

/-! ## The instance table -/

/-- The slot is valid and holds (addr, itf) (C8: instances are keyed by both). -/
def HidInstance.matchesKey (addr itf : Byte) (d : HidInstance) : Bool :=
  d.valid && d.addr == addr && d.itf == itf

/-- The valid slot of (addr, itf), if any (R310, R315, R330). -/
def findInstance (addr itf : Byte) (dev : List HidInstance) : Option Nat :=
  dev.findIdx? (HidInstance.matchesKey addr itf)

/-- The lowest-numbered free slot, if any (R310). -/
def findFree (dev : List HidInstance) : Option Nat := dev.findIdx? (fun d => !d.valid)

/-- The slot a mount takes (R310): the one of (addr, itf), else the lowest free one. -/
def mountSlot (addr itf : Byte) (dev : List HidInstance) : Option Nat :=
  match findInstance addr itf dev with
  | some i => some i
  | none => findFree dev

/-- `Dev[i]`; the operations below only use slots of the table. -/
def State.devAt (s : State) (i : Nat) : HidInstance := s.dev.getD i HidInstance.free

/-- `Dev[i] <- d`. -/
def State.setDevAt (s : State) (i : Nat) (d : HidInstance) : State := s.setDev (s.dev.set i d)

/-- `UsbRequestReport(i)` (R331). -/
def requestReport (i : Nat) (s : State) : State := s.emit (.usbRequestReport i)

/-! ## Mount and unmount -/

/-- The report's top-level usage is (page, usage). -/
def Report.hasTop (r : Report) (page usage : Usage) : Bool :=
  r.topUsagePage == page && r.topUsage == usage

/-- Top usage Keyboard or Keypad (R159). -/
def Report.isKeyboard (r : Report) : Bool := r.hasTop 0x01#16 0x06#16 || r.hasTop 0x01#16 0x07#16

/-- `isMouseOf(itfProtocol, rs)` (R312). -/
def isMouseOf (itfProtocol : Byte) (rs : List Report) : Bool :=
  if itfProtocol = 2#8 then true
  else if itfProtocol = 1#8 then false
  else rs.any (fun r => r.hasTop 0x01#16 0x02#16) && !rs.any Report.isKeyboard

/-- The record a mount writes (R310). -/
def mountedInstance (addr itf itfProtocol : Byte) (rs : List Report) : HidInstance where
  valid := true
  addr := addr
  itf := itf
  itfProtocol := itfProtocol
  reports := rs
  isMouse := isMouseOf itfProtocol rs
  ledsOwned := !isMouseOf itfProtocol rs
  modifierByte := 0x00#8
  bootKeyArray := Vector.replicate 6 0x00#8
  nkroBitmap := 0#128

/-- UsbMount (R310): parse, fill the slot, discard the interpreter state (R55), ask for a report. -/
def execUsbMount (addr itf itfProtocol : Byte) (desc : List Byte) (s : State) : StepResult :=
  match mountSlot addr itf s.dev with
  | none => .next (s.raise (.instanceTableFull addr itf))
  | some i =>
    let s := parse desc s
    let d := mountedInstance addr itf itfProtocol s.parser.table
    .next (requestReport i ((s.setParser Parser.init).setDevAt i d))

/-- UsbUnmount (R330): the slot becomes free; no release is synthesized. -/
def execUsbUnmount (addr itf : Byte) (s : State) : StepResult :=
  match findInstance addr itf s.dev with
  | none => .next s
  | some i => .next (s.setDevAt i { s.devAt i with valid := false })

/-! ## Keyboard reports -/

/-- What a keyboard report says is pressed: modifiers, array keys, bitmap keys, and the rollover error
(R318, R319). -/
structure KeyReport where
  mods     : Byte
  arr      : List Byte
  bitmap   : BitVec 128
  rollover : Bool
deriving DecidableEq, Repr

/-- A report with no key. -/
def KeyReport.empty : KeyReport := ⟨0x00#8, [], 0#128, false⟩

/-- A variable (1-bit) field of usage u with a value other than 0 (R318). -/
def KeyReport.addBit (r : KeyReport) (u : Usage) : KeyReport :=
  if 0xE0 ≤ u.toNat ∧ u.toNat ≤ 0xE7 then { r with mods := setBit r.mods (u.toNat - 0xE0) true }
  else if u.toNat < 0x80 then { r with bitmap := setBit r.bitmap u.toNat true }
  else r

/-- An array slot's value c (R318, R319): 0x01 is the rollover error, modifier usages set their bit,
0x00, 0x02, 0x03 are empty, a key joins the array once, and only while the array has room. -/
def KeyReport.addKey (r : KeyReport) (c : Byte) : KeyReport :=
  if c = 0x01#8 then { r with rollover := true }
  else if isModifier c then { r with mods := setBit r.mods (modIndex c) true }
  else if 0x04 ≤ c.toNat ∧ c ∉ r.arr ∧ r.arr.length < keyArrayMax then { r with arr := r.arr ++ [c] }
  else r

/-- One field of a keyboard report (R318). -/
def KeyReport.addField (payload : List Byte) (r : KeyReport) (f : Field) : KeyReport :=
  if f.itemKind = .input ∧ f.usagePage = 0x07#16 then
    let v := extractField f payload
    if f.bitWidth = 1#8 then (if v ≠ 0 then r.addBit f.usage else r)
    else if 2 ≤ f.bitWidth.toNat then r.addKey (u8 v)
    else r
  else r

/-- The keys a descriptor-described report holds (R318). -/
def keysFromFields (rd : Report) (payload : List Byte) : KeyReport :=
  rd.fields.foldl (KeyReport.addField payload) KeyReport.empty

/-- `b(k)`: byte k of the payload, 0 beyond it (R319). -/
def payloadByte (payload : List Byte) (k : Nat) : Byte := payload.getD k 0x00#8

/-- The keys a boot report holds (R319): byte 0 the modifiers, bytes 2 to 7 the array. -/
def keysFromBoot (payload : List Byte) : KeyReport :=
  ([2, 3, 4, 5, 6, 7].map (payloadByte payload)).foldl KeyReport.addKey
    { KeyReport.empty with mods := payloadByte payload 0 }

/-- The array padded with 0 to KEY_ARRAY_MAX entries (R320). -/
def paddedArray (arr : List Byte) : Vector Byte 6 := Vector.ofFn (fun i => arr.getD i 0x00#8)

/-- The usages an instance reported last (R320 `old`). -/
def HidInstance.held (d : HidInstance) (u : Byte) : Bool :=
  d.nkroBitmap.getLsbD u.toNat || (u != 0x00#8 && d.bootKeyArray.contains u)

/-- The usages a report holds (R320 `new`). -/
def KeyReport.held (r : KeyReport) (u : Byte) : Bool :=
  r.bitmap.getLsbD u.toNat || r.arr.contains u

/-- All usages, ascending. -/
def allUsages : List Byte := (List.range 256).map (BitVec.ofNat 8)

/-- The transitions of one report, in R320's order: changed modifiers by rising bit, releases by rising
usage, presses by rising usage. -/
def keyChanges (d : HidInstance) (r : KeyReport) : List (Byte × Bool) :=
  ((List.range 8).filter (fun n => d.modifierByte.getLsbD n != r.mods.getLsbD n)).map
      (fun n => (BitVec.ofNat 8 (0xE0 + n), r.mods.getLsbD n))
    ++ (allUsages.filter (fun u => d.held u && !r.held u)).map (fun u => (u, false))
    ++ (allUsages.filter (fun u => r.held u && !d.held u)).map (fun u => (u, true))

/-- `applyKeyboard` (R320): the transitions, then the instance remembers the report. -/
def applyKeyboard (i : Nat) (r : KeyReport) (s : State) : State :=
  let d := s.devAt i
  let s := (keyChanges d r).foldl (fun s c => onKeyTransition c.1 c.2 s) s
  s.setDevAt i { d with
    modifierByte := r.mods
    bootKeyArray := paddedArray r.arr
    nkroBitmap := r.bitmap }

/-- A keyboard report (R318, R319): discarded whole on a rollover error. -/
def keyboardReport (i : Nat) (r : KeyReport) (s : State) : State :=
  if r.rollover then s.raise (.rollover i) else applyKeyboard i r s

/-! ## Mouse reports -/

/-- The arguments of `onMovement` gathered from a report (R321). -/
structure MouseReport where
  buttons : Byte
  dx      : Int
  dy      : Int
  wheel   : Int
deriving DecidableEq, Repr

/-- One field of a mouse report (R321). -/
def MouseReport.addField (payload : List Byte) (r : MouseReport) (f : Field) : MouseReport :=
  if f.itemKind = .input then
    let v := extractField f payload
    if f.usagePage = 0x09#16 ∧ 1 ≤ f.usage.toNat ∧ f.usage.toNat ≤ 5 then
      (if v ≠ 0 then { r with buttons := setBit r.buttons (f.usage.toNat - 1) true } else r)
    else if f.usagePage = 0x01#16 ∧ f.usage = 0x30#16 then { r with dx := v }
    else if f.usagePage = 0x01#16 ∧ f.usage = 0x31#16 then { r with dy := v }
    else if f.usagePage = 0x01#16 ∧ f.usage = 0x38#16 then { r with wheel := v }
    else r
  else r

/-- `mouseFromFields` (R321). -/
def movementFromFields (rd : Report) (payload : List Byte) : MouseReport :=
  rd.fields.foldl (MouseReport.addField payload) ⟨0x00#8, 0, 0, 0⟩

/-- `bootMouse` (R322). -/
def movementFromBoot (payload : List Byte) : MouseReport where
  buttons := payloadByte payload 0 &&& 0x1F#8
  dx := (payloadByte payload 1).toInt
  dy := (payloadByte payload 2).toInt
  wheel := if 4 ≤ payload.length then (payloadByte payload 3).toInt else 0

/-- A mouse report goes to `onMovement` (R321, R322). -/
def mouseReport (r : MouseReport) (s : State) : State := onMovement r.buttons r.dx r.dy r.wheel s

/-! ## Selection and routing -/

/-- The outcome of `selectReport` (R316): no kept report matches, or the report's descriptor (none when
the instance has none) and payload. -/
inductive Selection where
  | unmatched (rid : Option Byte)
  | selected (rd : Option Report) (payload : List Byte)
deriving DecidableEq, Repr

/-- `selectReport(d, rep)` (R316): when some Report ID is not 0, byte 0 is the ID (R157). -/
def selectReport (d : HidInstance) (rep : List Byte) : Selection :=
  if d.reports.any (fun r => r.reportId != 0x00#8) then
    match rep with
    | [] => .unmatched none
    | rid :: payload =>
      match d.reports.find? (fun r => r.reportId == rid) with
      | none => .unmatched (some rid)
      | some rd => .selected (some rd) payload
  else .selected d.reports.head? rep

/-- `route(i, rd, payload)` (R317). -/
def route (i : Nat) (rd : Option Report) (payload : List Byte) (s : State) : State :=
  match rd with
  | some rd =>
    if rd.isKeyboard then keyboardReport i (keysFromFields rd payload) s
    else if rd.hasTop 0x01#16 0x02#16 || rd.hasTop 0x01#16 0x01#16 then
      mouseReport (movementFromFields rd payload) s
    else s.raise (.reportIgnored i)
  | none =>
    if (s.devAt i).itfProtocol = 1#8 then keyboardReport i (keysFromBoot payload) s
    else if (s.devAt i).itfProtocol = 2#8 then mouseReport (movementFromBoot payload) s
    else s.raise (.reportIgnored i)

/-- UsbReport (R315, R316): the next report is asked for whatever this one's outcome (R331), except for
an unknown instance (R510). -/
def execUsbReport (addr itf : Byte) (rep : List Byte) (s : State) : StepResult :=
  match findInstance addr itf s.dev with
  | none => .next (s.raise (.unknownInstance addr itf))
  | some i =>
    match selectReport (s.devAt i) rep with
    | .unmatched rid => .next (requestReport i (s.raise (.reportUnmatched i rid)))
    | .selected rd payload => .next (requestReport i (route i rd payload s))

end Sys2Proof.Machine
end

