-- ==== Sys2Proof/Machine/Dispatch.lean ====
section
/-! DEFINITION. One arm per row of spec/opcode_table.json. -/

namespace Sys2Proof.Machine

def exec (i : Instr) (s : State) : Host.Outcome State Fault Refusal :=
  match i with
  | .frame raw => Sys2Proof.Machine.execFrame raw s
  | .hostResend p => Sys2Proof.Machine.execHostResend p s
  | .hostByteParityError p raw => Sys2Proof.Machine.execHostByteParityError p raw s
  | .kbdSetLeds => Sys2Proof.Machine.execKbdSetLeds s
  | .kbdEcho => Sys2Proof.Machine.execKbdEcho s
  | .kbdScanSet => Sys2Proof.Machine.execKbdScanSet s
  | .kbdIdentify => Sys2Proof.Machine.execKbdIdentify s
  | .kbdSetTypematic => Sys2Proof.Machine.execKbdSetTypematic s
  | .kbdEnable => Sys2Proof.Machine.execKbdEnable s
  | .kbdDisable => Sys2Proof.Machine.execKbdDisable s
  | .kbdSetDefaults => Sys2Proof.Machine.execKbdSetDefaults s
  | .kbdReset => Sys2Proof.Machine.execKbdReset s
  | .kbdLedParam b => Sys2Proof.Machine.execKbdLedParam b s
  | .kbdSetParam b => Sys2Proof.Machine.execKbdSetParam b s
  | .kbdTypematicParam b => Sys2Proof.Machine.execKbdTypematicParam b s
  | .kbdOther b => Sys2Proof.Machine.execKbdOther b s
  | .mouseStatus => Sys2Proof.Machine.execMouseStatus s
  | .mouseReadData => Sys2Proof.Machine.execMouseReadData s
  | .mouseGetId => Sys2Proof.Machine.execMouseGetId s
  | .mouseSetRate => Sys2Proof.Machine.execMouseSetRate s
  | .mouseEnable => Sys2Proof.Machine.execMouseEnable s
  | .mouseDisable => Sys2Proof.Machine.execMouseDisable s
  | .mouseSetDefaults => Sys2Proof.Machine.execMouseSetDefaults s
  | .mouseReset => Sys2Proof.Machine.execMouseReset s
  | .mouseRateParam b => Sys2Proof.Machine.execMouseRateParam b s
  | .mouseOther b => Sys2Proof.Machine.execMouseOther b s
  | .hidInput d => Sys2Proof.Machine.execHidInput d s
  | .hidOutput d => Sys2Proof.Machine.execHidOutput d s
  | .hidFeature d => Sys2Proof.Machine.execHidFeature d s
  | .hidCollection d => Sys2Proof.Machine.execHidCollection d s
  | .hidEndCollection d => Sys2Proof.Machine.execHidEndCollection d s
  | .hidUsagePage d => Sys2Proof.Machine.execHidUsagePage d s
  | .hidLogicalMin d => Sys2Proof.Machine.execHidLogicalMin d s
  | .hidLogicalMax d => Sys2Proof.Machine.execHidLogicalMax d s
  | .hidPhysicalMin d => Sys2Proof.Machine.execHidPhysicalMin d s
  | .hidPhysicalMax d => Sys2Proof.Machine.execHidPhysicalMax d s
  | .hidUnitExponent d => Sys2Proof.Machine.execHidUnitExponent d s
  | .hidUnit d => Sys2Proof.Machine.execHidUnit d s
  | .hidReportSize d => Sys2Proof.Machine.execHidReportSize d s
  | .hidReportId d => Sys2Proof.Machine.execHidReportId d s
  | .hidReportCount d => Sys2Proof.Machine.execHidReportCount d s
  | .hidPush d => Sys2Proof.Machine.execHidPush d s
  | .hidPop d => Sys2Proof.Machine.execHidPop d s
  | .hidUsage d => Sys2Proof.Machine.execHidUsage d s
  | .hidUsageMin d => Sys2Proof.Machine.execHidUsageMin d s
  | .hidUsageMax d => Sys2Proof.Machine.execHidUsageMax d s
  | .hidGlobalReservedC4 d => Sys2Proof.Machine.execHidGlobalReservedC4 d s
  | .hidGlobalReservedD4 d => Sys2Proof.Machine.execHidGlobalReservedD4 d s
  | .hidGlobalReservedE4 d => Sys2Proof.Machine.execHidGlobalReservedE4 d s
  | .hidGlobalReservedF4 d => Sys2Proof.Machine.execHidGlobalReservedF4 d s
  | .hidDesignatorIndex d => Sys2Proof.Machine.execHidDesignatorIndex d s
  | .hidDesignatorMin d => Sys2Proof.Machine.execHidDesignatorMin d s
  | .hidDesignatorMax d => Sys2Proof.Machine.execHidDesignatorMax d s
  | .hidStringIndex d => Sys2Proof.Machine.execHidStringIndex d s
  | .hidStringMin d => Sys2Proof.Machine.execHidStringMin d s
  | .hidStringMax d => Sys2Proof.Machine.execHidStringMax d s
  | .hidDelimiter d => Sys2Proof.Machine.execHidDelimiter d s
  | .hidLocalReserved68 d => Sys2Proof.Machine.execHidLocalReserved68 d s
  | .hidLocalReservedB8 d => Sys2Proof.Machine.execHidLocalReservedB8 d s
  | .hidLocalReservedC8 d => Sys2Proof.Machine.execHidLocalReservedC8 d s
  | .hidLocalReservedD8 d => Sys2Proof.Machine.execHidLocalReservedD8 d s
  | .hidLocalReservedE8 d => Sys2Proof.Machine.execHidLocalReservedE8 d s
  | .hidLocalReservedF8 d => Sys2Proof.Machine.execHidLocalReservedF8 d s
  | .hidMainReserved00 d => Sys2Proof.Machine.execHidMainReserved00 d s
  | .hidMainReserved10 d => Sys2Proof.Machine.execHidMainReserved10 d s
  | .hidMainReserved20 d => Sys2Proof.Machine.execHidMainReserved20 d s
  | .hidMainReserved30 d => Sys2Proof.Machine.execHidMainReserved30 d s
  | .hidMainReserved40 d => Sys2Proof.Machine.execHidMainReserved40 d s
  | .hidMainReserved50 d => Sys2Proof.Machine.execHidMainReserved50 d s
  | .hidMainReserved60 d => Sys2Proof.Machine.execHidMainReserved60 d s
  | .hidMainReserved70 d => Sys2Proof.Machine.execHidMainReserved70 d s
  | .hidMainReservedD0 d => Sys2Proof.Machine.execHidMainReservedD0 d s
  | .hidMainReservedE0 d => Sys2Proof.Machine.execHidMainReservedE0 d s
  | .hidMainReservedF0 d => Sys2Proof.Machine.execHidMainReservedF0 d s
  | .hidLongItem tag data => Sys2Proof.Machine.execHidLongItem tag data s
  | .hidReservedType3 tag d => Sys2Proof.Machine.execHidReservedType3 tag d s
  | .usbMount addr itf itfProtocol desc => Sys2Proof.Machine.execUsbMount addr itf itfProtocol desc s
  | .usbReport addr itf rep => Sys2Proof.Machine.execUsbReport addr itf rep s
  | .usbUnmount addr itf => Sys2Proof.Machine.execUsbUnmount addr itf s
  | .enqueue p bytes => Sys2Proof.Machine.execEnqueue p bytes s
  | .poll p lineIdle => Sys2Proof.Machine.execPoll p lineIdle s
  | .phyRx p raw => Sys2Proof.Machine.execPhyRx p raw s
  | .phyTxFail p => Sys2Proof.Machine.execPhyTxFail p s
  | .onKeyTransition u pressed => Sys2Proof.Machine.execOnKeyTransition u pressed s
  | .onMovement buttons dx dy wheel => Sys2Proof.Machine.execOnMovement buttons dx dy wheel s
  | .kbdRepeatFire => Sys2Proof.Machine.execKbdRepeatFire s
  | .kbdResetDone deadline => Sys2Proof.Machine.execKbdResetDone deadline s
  | .ledSync => Sys2Proof.Machine.execLedSync s
  | .mouseEmitFire => Sys2Proof.Machine.execMouseEmitFire s
  | .mouseResetDone deadline => Sys2Proof.Machine.execMouseResetDone deadline s

end Sys2Proof.Machine
end

