-- ==== Sys2Proof/Machine/Events.lean ====
section
/-! DEFINITION. The steps that are no instruction: time (R8, R32) and power-on (R550, R551); and the
fetch of single instructions for the model's own events (log 1, log 7). -/

namespace Sys2Proof.Machine

/-- The time agent advances `now` by `us` microseconds (R8, R32). -/
def advanceTime (us : Nat) (s : State) : State := s.setNow (s.now + us)

/-- Power is lost and applied again (R550, R555): every field takes its power-on value (R551). What has
been output and what the environment still does are not the block's state and stay (log 17). -/
def powerCycle (s : State) : State :=
  { State.powerOn s.cfg with out := s.out, agenda := s.agenda }

/-- The instruction an 11-bit codec word is (R141). -/
def fetchCodec (raw : Frame) : Instr := .frame raw

/-- The first item of descriptor bytes, with its length; none when it runs past the end (R261, R262). -/
def fetchItem (bytes : List Byte) : Option (Instr × Nat) :=
  match decodeItem bytes with
  | .error _ => none
  | .ok (i, rest) => some (i, bytes.length - rest.length)

/-- What the walk does after an item (R260): move past it. -/
def afterItem (n : Nat) (r : StepResult) : StepResult :=
  match r with
  | .next s => .next (advancePos n s)
  | .fault f => .fault f
  | .refused x => .refused x

/-- Put an instruction of a stream where the very next step runs it: a host byte is received on its
port, with no two-byte command before it, no failure latched and a poll due; a descriptor item or a
codec word is the next event (log 1, log 9). -/
def loadWord (src : Source) (bytes : List Byte) (s : State) : State :=
  match src with
  | .codec => s.setAgenda (.codec (frameOfBytes (bytes.getD 0 0#8) (bytes.getD 1 0#8)) :: s.agenda)
  | .descriptor => s.setAgenda (.item bytes :: s.agenda)
  | .host p prev =>
    let s := s.setT p { s.t p with lastRx := prev, failLatch := false }
    let s := s.setRx p (encodeFrame (bytes.getD 0 0#8) :: s.rx p)
    s.setAgenda (.poll p false :: s.agenda)
  | .wire p prev =>
    let s := s.setT p { s.t p with lastRx := prev, failLatch := false }
    let s := s.setRx p (frameOfBytes (bytes.getD 0 0#8) (bytes.getD 1 0#8) :: s.rx p)
    s.setAgenda (.poll p false :: s.agenda)

end Sys2Proof.Machine
end

