-- ==== Sys2Proof/Machine/Step.lean ====
section
/-! DEFINITION. One step of the machine: the next event of the agenda (log 1). -/

namespace Sys2Proof.Machine

/-- One agent's step (R8, R140). -/
def runEvent (e : Event) (s : State) : StepResult :=
  match e with
  | .advance us => .next (advanceTime us s)
  | .powerOn => .next (powerCycle s)
  | .codec raw => exec (fetchCodec raw) s
  | .item bytes =>
    match fetchItem bytes with
    | some (i, n) => afterItem n (exec i s)
    | none => .next (itemTruncated s)
  | .usbMount addr itf proto desc => exec (.usbMount addr itf proto desc) s
  | .usbReport addr itf rep => exec (.usbReport addr itf rep) s
  | .usbUnmount addr itf => exec (.usbUnmount addr itf) s
  | .enqueue p bytes => exec (.enqueue p bytes) s
  | .poll p lineIdle => exec (.poll p lineIdle) s
  | .phyRx p raw => exec (.phyRx p raw) s
  | .phyTxFail p => exec (.phyTxFail p) s
  | .onKeyTransition u pressed => exec (.onKeyTransition u pressed) s
  | .onMovement buttons dx dy wheel => exec (.onMovement buttons dx dy wheel) s
  | .kbdRepeatFire => exec .kbdRepeatFire s
  | .kbdResetDone d => exec (.kbdResetDone d) s
  | .ledSync => exec .ledSync s
  | .mouseEmitFire => exec .mouseEmitFire s
  | .mouseResetDone d => exec (.mouseResetDone d) s

/-- The machine's step: the next event of the agenda, run on the state without it. When the environment
offers nothing, no agent steps and the state stays (log 1). -/
def step (s : State) : Host.Outcome State Fault Refusal :=
  match s.agenda with
  | [] => .next s
  | e :: rest => runEvent e (s.setAgenda rest)

/-- `s` with the instruction of an opcode-table word where the very next step runs it (log 9). -/
def State.withFetchWord (s : State) (nbits w : Nat) : State :=
  match tableSource nbits w with
  | none => s
  | some (src, bytes) => loadWord src bytes s

end Sys2Proof.Machine
end

