-- ==== Sys2Proof/Safety.lean ====
section
/-! DEFINITION. What counts as a safe state, and the terms the statements use: the invariants the spec
states of its records (10_state), the relation "equal but for the log" (R56), a run of several
instructions, and a host byte's whole effect on its transceiver. -/

namespace Sys2Proof.Machine

/-! ## Parameters -/

/-- What the rules presuppose of the OPEN parameters: a queue holds at least one packet (R6); usage 0 is
no key, since `K.repeatKey` 0 means no key repeats (R36, R443); LED_TABLE writes bits 2:0 only (R39). -/
structure ParamsOk (c : Params) : Prop where
  queueCap_pos : 0 < c.queueCap
  no_usage_zero : c.sc2Table.lookup 0x00#8 = none
  led_low : ∀ i : Fin 8, c.ledTable.get i &&& 0xF8#8 = 0x00#8

/-! ## Records -/

/-- R33: at most QUEUE_CAP packets, each of 1 to 8 bytes; `bytesSent` counts bytes of the head packet; the
resend request 0xFE is never the previous host byte (R237). -/
structure Transceiver.Ok (cap : Nat) (t : Transceiver) : Prop where
  queue_le : t.queue.length ≤ cap
  packets : ∀ pk ∈ t.queue, 1 ≤ pk.length ∧ pk.length ≤ packetMax
  sent_le : t.bytesSent ≤ (t.queue.headD []).length
  lastRx_ne : t.lastRx ≠ 0xFE#8

/-- R37 (the timer and the key go together, and the key has codes to repeat), R40 (rate and delay are
table entries), R39 (LED bits 7:3 are 0); the multiset's list is in rising order (log 5). -/
structure Keyboard.Ok (c : Params) (k : Keyboard) : Prop where
  repeat_iff : k.repeatTimer = none ↔ k.repeatKey = 0x00#8
  repeat_entry : k.repeatKey ≠ 0x00#8 → (keyEntry c k.repeatKey).isSome = true
  delay_mem : k.delayMs ∈ c.typematicDelayMs.toList
  interval_mem : k.intervalUs ∈ c.typematicIntervalUs.toList
  led_low : k.ledByte &&& 0xF8#8 = 0x00#8
  resets_sorted : k.resetPending.Pairwise (· ≤ ·)

/-- R42 and R433 (the tick is armed exactly while streaming), R41 (the rate is 1 to 255, five buttons);
the multiset's list is in rising order (log 5). -/
structure Mouse.Ok (m : Mouse) : Prop where
  tick_iff : m.emitTimer.isSome = m.streaming
  rate_ne : m.rate ≠ 0x00#8
  buttons_low : m.buttons &&& 0xE0#8 = 0x00#8
  resets_sorted : m.resetPending.Pairwise (· ≤ ·)

/-- R48: at most 8 reports of at most 32 fields. -/
def reportsOk (rs : List Report) : Prop :=
  rs.length ≤ reportMax ∧ ∀ r ∈ rs, r.fields.length ≤ fieldMax

/-- R47: what a mount has set in a valid slot. -/
structure HidInstance.Ok (d : HidInstance) : Prop where
  reports_ok : reportsOk d.reports
  isMouse_eq : d.isMouse = isMouseOf d.itfProtocol d.reports
  ledsOwned_eq : d.ledsOwned = !d.isMouse

/-- R47, C8: DEVICE_MAX slots; every valid one as mounted; no two valid ones with the same key. -/
structure DeviceTableOk (n : Nat) (dev : List HidInstance) : Prop where
  size : dev.length = n
  valid_ok : ∀ d ∈ dev, d.valid = true → d.Ok
  keys_distinct : ∀ (i j : Nat) (a b : HidInstance), dev[i]? = some a → dev[j]? = some b →
    a.valid = true → b.valid = true → a.addr = b.addr → a.itf = b.itf → i = j

/-- R55, R264, R282: the capacities hold at every item, and a usage range is expanded as soon as both its
ends are set (R278). -/
structure Parser.Ok (q : Parser) : Prop where
  table_ok : reportsOk q.table
  cur_ok : q.cur.fields.length ≤ fieldMax
  range_open : q.lUsageMin = none ∨ q.lUsageMax = none

/-! ## The invariant -/

/-- The invariants of 10_state together. -/
structure Inv (s : State) : Prop where
  cfg_ok : ParamsOk s.cfg
  t0_ok : s.t0.Ok s.cfg.queueCap
  t1_ok : s.t1.Ok s.cfg.queueCap
  k_ok : s.k.Ok s.cfg
  m_ok : s.m.Ok
  dev_ok : DeviceTableOk s.cfg.deviceMax s.dev
  parser_ok : s.parser.Ok

/-! ## Terms of the statements -/

/-- The state without its log. -/
def State.withoutLog (s : State) : State := { s with log := [] }

/-- Equal in everything but the condition log (R56: it has no effect on any other state). -/
def SameButLog (s t : State) : Prop := s.withoutLog = t.withoutLog

/-- Several instructions, one after the other. -/
def execAll : List Instr → State → StepResult
  | [], s => .next s
  | i :: rest, s =>
    match exec i s with
    | .next t => execAll rest t
    | .fault f => .fault f
    | .refused r => .refused r

/-- k steps of the machine (`Host.Core.run` of `Sys2Proof.core`, over the model's own types). -/
def runSteps : Nat → State → StepResult
  | 0, s => .next s
  | k + 1, s =>
    match step s with
    | .next t => runSteps k t
    | .fault f => .fault f
    | .refused r => .refused r

/-- A host byte b of port p taken and answered with the one packet pk: the queue holds exactly that
packet, and b is the previous host byte from now on (R235, R243). -/
def State.replied (s : State) (p : Port) (b : Byte) (pk : List Byte) : State :=
  s.setT p { s.t p with queue := [pk], bytesSent := 0, lastRx := b }

/-- The host's instruction that an event takes, if it is a poll with a frame waiting (R234). -/
def State.hostInstr (s : State) (e : Event) : Option Instr :=
  match e with
  | .poll p _ =>
    match s.rx p with
    | raw :: _ => some (decodeWire p (s.t p).lastRx raw)
    | [] => none
  | .advance _ | .powerOn | .codec _ | .item _ | .usbMount _ _ _ _ | .usbReport _ _ _
  | .usbUnmount _ _ | .enqueue _ _ | .phyRx _ _ | .phyTxFail _ | .onKeyTransition _ _
  | .onMovement _ _ _ _ | .kbdRepeatFire | .kbdResetDone _ | .ledSync | .mouseEmitFire
  | .mouseResetDone _ => none

/-- The one packet with which each host byte is answered (R144, R145): nothing for the two frames the
transceiver handles itself. -/
def hostReply (i : Instr) (s : State) : List Byte :=
  match i with
  | .kbdEcho => [0xEE#8]
  | .kbdIdentify => [0xFA#8, 0xAB#8, 0x83#8]
  | .mouseStatus => s.cfg.mouseStatusReply.toList
  | .mouseGetId => [0xFA#8, levelId s.m.level]
  | .kbdSetLeds | .kbdScanSet | .kbdSetTypematic | .kbdEnable | .kbdDisable | .kbdSetDefaults
  | .kbdReset | .kbdLedParam _ | .kbdSetParam _ | .kbdTypematicParam _ | .kbdOther _
  | .mouseReadData | .mouseSetRate | .mouseEnable | .mouseDisable | .mouseSetDefaults | .mouseReset
  | .mouseRateParam _ | .mouseOther _ => [0xFA#8]
  | .frame _ | .hostResend _ | .hostByteParityError _ _ | .hidInput _ | .hidOutput _ | .hidFeature _
  | .hidCollection _ | .hidEndCollection _ | .hidUsagePage _ | .hidLogicalMin _ | .hidLogicalMax _
  | .hidPhysicalMin _ | .hidPhysicalMax _ | .hidUnitExponent _ | .hidUnit _ | .hidReportSize _
  | .hidReportId _ | .hidReportCount _ | .hidPush _ | .hidPop _ | .hidUsage _ | .hidUsageMin _
  | .hidUsageMax _ | .hidGlobalReservedC4 _ | .hidGlobalReservedD4 _ | .hidGlobalReservedE4 _
  | .hidGlobalReservedF4 _ | .hidDesignatorIndex _ | .hidDesignatorMin _ | .hidDesignatorMax _
  | .hidStringIndex _ | .hidStringMin _ | .hidStringMax _ | .hidDelimiter _
  | .hidLocalReserved68 _ | .hidLocalReservedB8 _ | .hidLocalReservedC8 _ | .hidLocalReservedD8 _
  | .hidLocalReservedE8 _ | .hidLocalReservedF8 _ | .hidMainReserved00 _ | .hidMainReserved10 _
  | .hidMainReserved20 _ | .hidMainReserved30 _ | .hidMainReserved40 _ | .hidMainReserved50 _
  | .hidMainReserved60 _ | .hidMainReserved70 _ | .hidMainReservedD0 _ | .hidMainReservedE0 _
  | .hidMainReservedF0 _ | .hidLongItem _ _ | .hidReservedType3 _ _ | .usbMount _ _ _ _
  | .usbReport _ _ _ | .usbUnmount _ _ | .enqueue _ _ | .poll _ _ | .phyRx _ _ | .phyTxFail _
  | .onKeyTransition _ _ | .onMovement _ _ _ _ | .kbdRepeatFire | .kbdResetDone _ | .ledSync
  | .mouseEmitFire | .mouseResetDone _ => []

/-! ## The default tables, a second time

Laid out as the rules give them and not as `defaultParams` holds them, for the statement of power-on. -/

/-- The codes of R441 for the usages 0x04 to 0x67 in order; 0 at the place of 0x48 (Pause), which has no
entry. -/
def set2Codes : List Nat := [
  0x1C, 0x32, 0x21, 0x23, 0x24, 0x2B, 0x34, 0x33, 0x43, 0x3B,
  0x42, 0x4B, 0x3A, 0x31, 0x44, 0x4D, 0x15, 0x2D, 0x1B, 0x2C,
  0x3C, 0x2A, 0x1D, 0x22, 0x35, 0x1A, 0x16, 0x1E, 0x26, 0x25,
  0x2E, 0x36, 0x3D, 0x3E, 0x46, 0x45, 0x5A, 0x76, 0x66, 0x0D,
  0x29, 0x4E, 0x55, 0x54, 0x5B, 0x5D, 0x5D, 0x4C, 0x52, 0x0E,
  0x41, 0x49, 0x4A, 0x58, 0x05, 0x06, 0x04, 0x0C, 0x03, 0x0B,
  0x83, 0x0A, 0x01, 0x09, 0x78, 0x07, 0x7C, 0x7E, 0x00, 0x70,
  0x6C, 0x7D, 0x71, 0x69, 0x7A, 0x74, 0x6B, 0x72, 0x75, 0x77,
  0x4A, 0x7C, 0x7B, 0x79, 0x5A, 0x69, 0x72, 0x7A, 0x6B, 0x73,
  0x74, 0x6C, 0x75, 0x7D, 0x70, 0x71, 0x61, 0x2F, 0x37, 0x0F]

/-- The usages of R441 that R442 calls extended. -/
def extendedUsages : List Nat := [
  0x46, 0x49, 0x4A, 0x4B, 0x4C, 0x4D, 0x4E, 0x4F,
  0x50, 0x51, 0x52, 0x54, 0x58, 0x65, 0x66]

/-- The codes of R450 by modifier bit. -/
def modifierCodes : Vector Byte 8 :=
  #v[0x14#8, 0x12#8, 0x11#8, 0x1F#8, 0x14#8, 0x59#8, 0x11#8, 0x27#8]

/-- The repeat rates of R470 in tenths of a character per second; an interval is 1000000 microseconds over
the rate, rounded. -/
def tenthsOfCps : Vector Nat 32 := #v[
  300, 267, 240, 218, 200, 185, 171, 160, 150, 133, 120, 109, 100, 92, 86, 80,
  75, 67, 60, 55, 50, 46, 43, 40, 37, 33, 30, 27, 25, 23, 21, 20]

/-! ## Data as numbers -/

/-- An item's data as an unsigned number (R155). -/
def itemValue : ItemData → Nat
  | .none => 0
  | .b1 v => v.toNat
  | .b2 v => v.toNat
  | .b4 v => v.toNat

/-- An item's data in two's complement (R155, R271). -/
def itemSignedValue : ItemData → Int
  | .none => 0
  | .b1 v => v.toInt
  | .b2 v => v.toInt
  | .b4 v => v.toInt

/-- The 9-bit two's-complement value that a sign bit and a byte carry (R414). -/
def nineBit (sign : Bool) (b : Byte) : Int := (b.toNat : Int) - (if sign then 256 else 0)

end Sys2Proof.Machine
end

