-- ==== Sys2Proof/Certificates/Slice0/Obligations.lean ====
section
/-! DEFINITION. The statements for the provers. Each docstring says which rule of spec/ a statement
formalises; OBLIGATIONS.json lists them. `enqueue` stands for R221, which `EnqueueByRule` states. -/

open Sys2Proof Sys2Proof.Machine

/-! ## The codec -/

/-- R200: the frame of a byte, bit by bit, and the rule's examples.
R201: data in frame bits 8:1, the parity check over bits 9:1; start and stop bits and any bits above
bit 10 are not read; an inverted parity bit is always detected. -/
def Obligations.CodecByRule : Prop :=
  (∀ b : Byte,
      encodeFrame b = BitVec.ofNat 11 (1024 + 512 * (1 - popcount b % 2) + 2 * b.toNat)
      ∧ (encodeFrame b).getLsbD 0 = false ∧ (encodeFrame b).getLsbD 10 = true
      ∧ (∀ i < 8, (encodeFrame b).getLsbD (i + 1) = b.getLsbD i)
      ∧ (popcount b + ((encodeFrame b).getLsbD 9).toNat) % 2 = 1
      ∧ encodeFrame 0x00#8 = 0x600#11 ∧ encodeFrame 0xFF#8 = 0x7FE#11 ∧ encodeFrame 0x1C#8 = 0x438#11)
  ∧ ((∀ raw : Frame,
      (∀ i < 8, (decodeFrame raw).1.getLsbD i = raw.getLsbD (i + 1))
      ∧ (decodeFrame raw).2 = ((popcount (decodeFrame raw).1 + (raw.getLsbD 9).toNat) % 2 == 1))
    ∧ (∀ raw raw' : Frame, (∀ i, 1 ≤ i → i ≤ 9 → raw.getLsbD i = raw'.getLsbD i) →
        decodeFrame raw = decodeFrame raw')
    ∧ (∀ lo hi hi' : Byte, (∀ i < 3, hi.getLsbD i = hi'.getLsbD i) →
        frameOfBytes lo hi = frameOfBytes lo hi')
    ∧ (∀ raw : Frame, (decodeFrame raw).2 = true →
        decodeFrame (raw ^^^ 0x200#11) = ((decodeFrame raw).1, false))
    ∧ decodeFrame 0x7F4#11 = (0xFA#8, true) ∧ decodeFrame 0x5FE#11 = (0xFF#8, false))

/-- The FRAME row. The codec is pure (R203), so where its value is left is the MODEL's choice (log 6): the
field `codec`; nothing else changes.
The round trip of the codec, which R202 infers from R200 and R201. -/
def Obligations.FrameLeavesCodecResult : Prop :=
  (∀ (raw : Frame) (s : State),
      exec (.frame raw) s = .next { s with
        codec := some ⟨(decodeFrame raw).1, (decodeFrame raw).2, encodeFrame (decodeFrame raw).1⟩ })
  ∧ (∀ b : Byte, decodeFrame (encodeFrame b) = (b, true))

/-! ## Encodings -/

/-- Decoding the encoding of a well-formed instruction, on a stream that carries it, gives it back with
the bytes that follow: every row that has an encoding, every operand. -/
def Obligations.DecodeOfEncode : Prop :=
  ∀ (i : Instr) (src : Source) (bytes rest : List Byte),
    WellFormed i → i.admits src = true → encode i = some bytes →
      decode src (bytes ++ rest) = .ok (i, rest)

/-- What the decoder reads from a host byte or from a descriptor is well formed, is carried by that
stream, and its encoding is exactly the bytes read: no bit of a word is dropped. -/
def Obligations.EncodeOfDecode : Prop :=
  ∀ (src : Source) (bytes : List Byte) (i : Instr) (rest : List Byte),
    (src = .descriptor ∨ ∃ p prev, src = .host p prev) → decode src bytes = .ok (i, rest) →
      WellFormed i ∧ i.admits src = true ∧ ∃ word, encode i = some word ∧ bytes = word ++ rest

/-- R143: 0xFE is consumed before the engines; then a two-byte command's parameter, whatever its value;
then the command surface; every other byte is unrecognized.
R142 on the wire: a frame with the right parity is the host byte it carries, one with the wrong
parity is the parity error; start and stop bits do not matter. -/
def Obligations.HostByteDecodePriority : Prop :=
  ((∀ p prev, decodeHostByte p prev 0xFE#8 = .hostResend p)
    ∧ (∀ b : Byte, b ≠ 0xFE#8 →
        decodeHostByte .kbd 0xED#8 b = .kbdLedParam b ∧ decodeHostByte .kbd 0xF0#8 b = .kbdSetParam b
        ∧ decodeHostByte .kbd 0xF3#8 b = .kbdTypematicParam b
        ∧ decodeHostByte .mouse 0xF3#8 b = .mouseRateParam b)
    ∧ (∀ prev : Byte, prev ≠ 0xED#8 → prev ≠ 0xF0#8 → prev ≠ 0xF3#8 →
        decodeHostByte .kbd prev 0xED#8 = .kbdSetLeds ∧ decodeHostByte .kbd prev 0xEE#8 = .kbdEcho
        ∧ decodeHostByte .kbd prev 0xF0#8 = .kbdScanSet ∧ decodeHostByte .kbd prev 0xF2#8 = .kbdIdentify
        ∧ decodeHostByte .kbd prev 0xF3#8 = .kbdSetTypematic ∧ decodeHostByte .kbd prev 0xF4#8 = .kbdEnable
        ∧ decodeHostByte .kbd prev 0xF5#8 = .kbdDisable ∧ decodeHostByte .kbd prev 0xF6#8 = .kbdSetDefaults
        ∧ decodeHostByte .kbd prev 0xFF#8 = .kbdReset
        ∧ ∀ b : Byte, b ∉ [0xFE#8, 0xED#8, 0xEE#8, 0xF0#8, 0xF2#8, 0xF3#8, 0xF4#8, 0xF5#8, 0xF6#8, 0xFF#8] →
            decodeHostByte .kbd prev b = .kbdOther b)
    ∧ (∀ prev : Byte, prev ≠ 0xF3#8 →
        decodeHostByte .mouse prev 0xE9#8 = .mouseStatus ∧ decodeHostByte .mouse prev 0xEB#8 = .mouseReadData
        ∧ decodeHostByte .mouse prev 0xF2#8 = .mouseGetId ∧ decodeHostByte .mouse prev 0xF3#8 = .mouseSetRate
        ∧ decodeHostByte .mouse prev 0xF4#8 = .mouseEnable ∧ decodeHostByte .mouse prev 0xF5#8 = .mouseDisable
        ∧ decodeHostByte .mouse prev 0xF6#8 = .mouseSetDefaults ∧ decodeHostByte .mouse prev 0xFF#8 = .mouseReset
        ∧ ∀ b : Byte, b ∉ [0xFE#8, 0xE9#8, 0xEB#8, 0xF2#8, 0xF3#8, 0xF4#8, 0xF5#8, 0xF6#8, 0xFF#8] →
            decodeHostByte .mouse prev b = .mouseOther b))
  ∧ (∀ (p : Port) (prev b : Byte) (raw : Frame), (∀ i < 8, raw.getLsbD (i + 1) = b.getLsbD i) →
      ((popcount b + (raw.getLsbD 9).toNat) % 2 = 1 → decodeWire p prev raw = decodeHostByte p prev b)
      ∧ ((popcount b + (raw.getLsbD 9).toNat) % 2 = 0 → decodeWire p prev raw = .hostByteParityError p raw))

/-- R153: a long item has 3 + n bytes, a short one 1 + [0, 1, 2, 4][h & 3]; an item is read exactly when
its bytes are there; a long item is skipped. -/
def Obligations.ItemLengthFromHeader : Prop :=
  (∀ (h : Byte) (bytes : List Byte),
    let n := if h = 0xFE#8 then 3 + (bytes.headD 0x00#8).toNat else 1 + [0, 1, 2, 4].getD (h.toNat % 4) 0
    ((∃ r, decodeItem (h :: bytes) = .ok r) ↔ n ≤ bytes.length + 1)
    ∧ ∀ i rest, decodeItem (h :: bytes) = .ok (i, rest) → rest = (h :: bytes).drop n)
  ∧ (∀ (n tag : Byte) (data rest : List Byte), data.length = n.toNat →
      decodeItem (0xFE#8 :: n :: tag :: data ++ rest) = .ok (.hidLongItem tag data, rest))
  ∧ ∀ tag data s, exec (.hidLongItem tag data) s = .next s

/-- A few words written out from 30_encoding, each with the instruction it stands for. -/
def Obligations.WrittenWordsDecode : Prop :=
  decode .codec [0x38#8, 0x04#8] = .ok (.frame 0b10000111000#11, [])
  ∧ decode (.host .kbd 0x00#8) [0b11101101#8] = .ok (.kbdSetLeds, [])
  ∧ decode (.host .kbd 0xED#8) [0b00000010#8] = .ok (.kbdLedParam 0x02#8, [])
  ∧ decode (.host .mouse 0x00#8) [0b11101001#8] = .ok (.mouseStatus, [])
  ∧ decode (.wire .mouse 0x00#8) [0xFE#8, 0x05#8] = .ok (.hostByteParityError .mouse 0b10111111110#11, [])
  ∧ decode .descriptor [0b10000001#8, 0x02#8] = .ok (.hidInput (.b1 0x02#8), [])
  ∧ decode .descriptor [0b00100110#8, 0xFF#8, 0x7F#8] = .ok (.hidLogicalMax (.b2 0x7FFF#16), [])
  ∧ decode .descriptor [0b11000000#8, 0x05#8] = .ok (.hidEndCollection .none, [0x05#8])

/-! ## Steps -/

/-- A step runs the next event of the agenda (log 1): a poll runs the instruction it receives, after its
steps 1 and 2; a codec word, a descriptor item and an entry point run their instruction. After an
item the interpreter's position is past it; with no event the state stays. -/
def Obligations.StepRunsDecodedInstruction : Prop :=
  ∀ (s : State) (rest : List Event),
    (s.agenda = [] → step s = .next s)
    ∧ (∀ p lineIdle raw more, s.agenda = .poll p lineIdle :: rest → s.rx p = raw :: more →
        step s = exec (decodeWire p (s.t p).lastRx raw)
          ((pollTransmit p lineIdle (pollRecover p (s.setAgenda rest))).setRx p more))
    ∧ (∀ raw, s.agenda = .codec raw :: rest → step s = exec (.frame raw) (s.setAgenda rest))
    ∧ (∀ bytes i more, s.agenda = .item bytes :: rest → decodeItem bytes = .ok (i, more) →
        ∃ t, exec i (s.setAgenda rest) = .next t
          ∧ step s = .next { t with
              parser := { t.parser with pos := t.parser.pos + (bytes.length - more.length) } })
    ∧ (∀ e i, s.agenda = e :: rest →
        (e, i) ∈ ([(.kbdRepeatFire, .kbdRepeatFire), (.ledSync, .ledSync), (.mouseEmitFire, .mouseEmitFire)]
          : List (Event × Instr)) → step s = exec i (s.setAgenda rest))
    ∧ (∀ a f pr d, s.agenda = .usbMount a f pr d :: rest → step s = exec (.usbMount a f pr d) (s.setAgenda rest))
    ∧ (∀ a f r, s.agenda = .usbReport a f r :: rest → step s = exec (.usbReport a f r) (s.setAgenda rest))
    ∧ (∀ a f, s.agenda = .usbUnmount a f :: rest → step s = exec (.usbUnmount a f) (s.setAgenda rest))
    ∧ (∀ p b, s.agenda = .enqueue p b :: rest → step s = exec (.enqueue p b) (s.setAgenda rest))
    ∧ (∀ p l, s.agenda = .poll p l :: rest → step s = exec (.poll p l) (s.setAgenda rest))
    ∧ (∀ p raw, s.agenda = .phyRx p raw :: rest → step s = exec (.phyRx p raw) (s.setAgenda rest))
    ∧ (∀ p, s.agenda = .phyTxFail p :: rest → step s = exec (.phyTxFail p) (s.setAgenda rest))
    ∧ (∀ u b, s.agenda = .onKeyTransition u b :: rest → step s = exec (.onKeyTransition u b) (s.setAgenda rest))
    ∧ (∀ b x y w, s.agenda = .onMovement b x y w :: rest → step s = exec (.onMovement b x y w) (s.setAgenda rest))
    ∧ (∀ d, s.agenda = .kbdResetDone d :: rest → step s = exec (.kbdResetDone d) (s.setAgenda rest))
    ∧ (∀ d, s.agenda = .mouseResetDone d :: rest → step s = exec (.mouseResetDone d) (s.setAgenda rest))

/-- R260: parse walks the whole descriptor from the initial interpreter state (R55), whatever bound on the
number of items is at least its length. The walk executes the item it reads, stops when the table is
full or an item runs past the end (R262, R264), and goes on with the rest otherwise. R260's pseudocode
moves `pos` before it executes the item; here the item executes at its own start and `pos` moves after:
the model's reading of what a log record holds (log 8). -/
def Obligations.WalkExecutesItems : Prop :=
  (∀ (desc : List Byte) (s : State) (n : Nat), desc.length ≤ n →
    parse desc s = walk n desc (s.setParser Parser.init)) ∧
  ∀ (n : Nat) (h : Byte) (bytes : List Byte) (s : State),
    walk n [] s = s
    ∧ (decodeItem (h :: bytes) = .error .truncated →
        walk (n + 1) (h :: bytes) s = { s with log := s.log ++ [⟨.descMalformed s.parser.pos, s.now⟩] })
    ∧ (∀ i rest, decodeItem (h :: bytes) = .ok (i, rest) →
        ∃ t, exec i s = .next t ∧
          let u := { t with parser := { t.parser with
            pos := t.parser.pos + ((h :: bytes).length - rest.length) } }
          walk (n + 1) (h :: bytes) s =
            if t.parser.table.length ≠ reportMax then walk n rest u
            else if rest = [] then u
            else { u with log := u.log ++ [⟨.descReportsTruncated u.parser.pos, u.now⟩] })

/-! ## Keyboard host commands -/

/-- R365, R367, R368, R369, R370, R374: one packet, and no other state but what every host byte does.
R379: an unrecognized byte is acknowledged and logged, nothing else. -/
def Obligations.KbdReplyOnlyCommands : Prop :=
  (∀ s : State, 0 < s.cfg.queueCap →
      exec .kbdSetLeds s = .next (s.replied .kbd 0xED#8 [0xFA#8])
      ∧ exec .kbdEcho s = .next (s.replied .kbd 0xEE#8 [0xEE#8])
      ∧ exec .kbdScanSet s = .next (s.replied .kbd 0xF0#8 [0xFA#8])
      ∧ (∀ b, exec (.kbdSetParam b) s = .next (s.replied .kbd b [0xFA#8]))
      ∧ exec .kbdIdentify s = .next (s.replied .kbd 0xF2#8 [0xFA#8, 0xAB#8, 0x83#8])
      ∧ exec .kbdSetTypematic s = .next (s.replied .kbd 0xF3#8 [0xFA#8]))
  ∧ (∀ (s : State) (b : Byte), 0 < s.cfg.queueCap →
      exec (.kbdOther b) s = .next { s.replied .kbd b [0xFA#8] with
        log := s.log ++ [⟨.unknownCommand .kbd b, s.now⟩] })

/-- R366: the Set-LEDs parameter.
R375: the typematic parameter; a pending repeat keeps its deadline. -/
def Obligations.KbdParametersByRule : Prop :=
  (∀ (s : State) (b : Byte) (i : Fin 8), 0 < s.cfg.queueCap → i.val = (b &&& 0x07#8).toNat →
      exec (.kbdLedParam b) s = .next { s.replied .kbd b [0xFA#8] with
        k := { s.k with ledByte := s.cfg.ledTable.get i, ledSyncPending := true } })
  ∧ (∀ (s : State) (b : Byte) (r : Fin 32) (d : Fin 4), 0 < s.cfg.queueCap →
      r.val = (b &&& 0x1F#8).toNat → d.val = ((b >>> 5) &&& 0x03#8).toNat →
      exec (.kbdTypematicParam b) s = .next { s.replied .kbd b [0xFA#8] with
        k := { s.k with
          intervalUs := s.cfg.typematicIntervalUs.get r, delayMs := s.cfg.typematicDelayMs.get d } })

/-- R376, R377, R378 with R395: Enable, Disable, Set Defaults. -/
def Obligations.KbdEnableDisableDefaults : Prop :=
  ∀ s : State, 0 < s.cfg.queueCap →
    exec .kbdEnable s = .next { s.replied .kbd 0xF4#8 [0xFA#8] with k := { s.k with enabled := true } }
    ∧ exec .kbdDisable s = .next { s.replied .kbd 0xF5#8 [0xFA#8] with
        k := { s.k with
          enabled := false, repeatKey := 0x00#8, repeatTimer := none
          delayMs := s.cfg.typematicDelayMs.get 1, intervalUs := s.cfg.typematicIntervalUs.get 0x0B } }
    ∧ exec .kbdSetDefaults s = .next { s.replied .kbd 0xF6#8 [0xFA#8] with
        k := { s.k with
          delayMs := s.cfg.typematicDelayMs.get 1, intervalUs := s.cfg.typematicIntervalUs.get 0x0B } }

/-- R380: Reset; one more completion is due 500 ms from now. -/
def Obligations.KbdResetByRule : Prop :=
  ∀ s : State, 0 < s.cfg.queueCap →
    ∃ pending, pending.Perm ((s.now + 500000) :: s.k.resetPending) ∧
      exec .kbdReset s = .next { s.replied .kbd 0xFF#8 [0xFA#8] with
        k := { s.k with
          enabled := false, repeatKey := 0x00#8, repeatTimer := none
          delayMs := s.cfg.typematicDelayMs.get 1, intervalUs := s.cfg.typematicIntervalUs.get 0x0B
          ledByte := 0x07#8, ledSyncPending := true, resetPending := pending } }

/-! ## Mouse host commands -/

/-- R421, R422, R423 (with R44's bytes), R424. -/
def Obligations.MouseReplyCommands : Prop :=
  ∀ s : State, 0 < s.cfg.queueCap →
    exec .mouseStatus s = .next (s.replied .mouse 0xE9#8 s.cfg.mouseStatusReply.toList)
    ∧ exec .mouseReadData s = .next { s.replied .mouse 0xEB#8 [0xFA#8] with
        m := { s.m with wasMoving := true } }
    ∧ (∀ l id, s.m.level = l →
        (l, id) ∈ [(Level.standard, 0x00#8), (Level.intelliMouse, 0x03#8), (Level.explorer, 0x04#8)] →
        exec .mouseGetId s = .next (s.replied .mouse 0xF2#8 [0xFA#8, id]))
    ∧ exec .mouseSetRate s = .next (s.replied .mouse 0xF3#8 [0xFA#8])

/-- R425: the sample-rate parameter: shifted in, stored unless 0, and the two level upgrades.
R426, R429, R430: Enable (tick armed one interval from now, R411), Disable, Set Defaults. -/
def Obligations.MouseRateAndStreamingCommands : Prop :=
  (∀ (s : State) (b : Byte) (magic : BitVec 24), 0 < s.cfg.queueCap →
      magic.toNat = (s.m.magic.toNat * 256 + b.toNat) % 2 ^ 24 →
      exec (.mouseRateParam b) s = .next { s.replied .mouse b [0xFA#8] with
        m := { s.m with
          magic := magic
          rate := if b = 0x00#8 then s.m.rate else b
          level :=
            if s.m.level = .standard ∧ magic = 0xC86450#24 then .intelliMouse
            else if s.m.level = .intelliMouse ∧ magic = 0xC8C850#24 then .explorer
            else s.m.level } })
  ∧ (∀ s : State, 0 < s.cfg.queueCap →
      (s.m.rate ≠ 0x00#8 → exec .mouseEnable s = .next { s.replied .mouse 0xF4#8 [0xFA#8] with
          m := { s.m with streaming := true, emitTimer := some (s.now + 1000000 / s.m.rate.toNat) } })
      ∧ exec .mouseDisable s = .next { s.replied .mouse 0xF5#8 [0xFA#8] with
          m := { s.m with streaming := false, emitTimer := none } }
      ∧ exec .mouseSetDefaults s = .next { s.replied .mouse 0xF6#8 [0xFA#8] with
          m := { s.m with rate := 100#8 } })

/-- R427 and R431: Reset returns every field of M to its neutral value and adds a completion; an
unrecognized byte clears the accumulators; each with what taking the byte does (R235; log 16).
R428: a due Reset completion: one copy of its deadline goes, and the self-test reply carries the level
read now; that the operand names which due completion it is, is the model's choice (log 5). -/
def Obligations.MouseResetByRule : Prop :=
  (∀ s : State, 0 < s.cfg.queueCap →
      (∃ pending, pending.Perm ((s.now + s.cfg.mouseResetDelayMs * 1000) :: s.m.resetPending) ∧
        exec .mouseReset s = .next { s.replied .mouse 0xFF#8 [0xFA#8] with
          m := { streaming := false, level := .standard, magic := 0#24, rate := 100#8, buttons := 0x00#8
                 accDx := 0#16, accDy := 0#16, accWheel := 0#8, wasMoving := false, emitTimer := none
                 resetPending := pending } })
      ∧ ∀ b, exec (.mouseOther b) s = .next { s.replied .mouse b [0xFA#8] with
          log := s.log ++ [⟨.unknownCommand .mouse b, s.now⟩]
          m := { s.m with accDx := 0#16, accDy := 0#16, accWheel := 0#8 } })
  ∧ (∀ (s : State) (d : Nat) (id : Byte), d ∈ s.m.resetPending → d ≤ s.now →
      (s.m.level, id) ∈ [(Level.standard, 0x00#8), (Level.intelliMouse, 0x03#8), (Level.explorer, 0x04#8)] →
      exec (.mouseResetDone d) s = .next { enqueue .mouse [0xAA#8, id] s with
        m := { s.m with resetPending := s.m.resetPending.erase d } })

/-! ## The transceiver -/

/-- R236, R237: the direct sends: 0xFE after a parity error, `lastTx` on a resend request; no field of
T[p] is written.
R240, R241: a received frame joins `rxFifo[p]`; a failure sets the latch. -/
def Obligations.DirectSendsAndPhySignals : Prop :=
  (∀ (p : Port) (raw : Frame) (s : State),
      exec (.hostByteParityError p raw) s = .next { s with
        out := s.out ++ [.phyTx p (encodeFrame 0xFE#8)], log := s.log ++ [⟨.parityError p raw, s.now⟩] }
      ∧ exec (.hostResend p) s = .next { s with
        out := s.out ++ [.phyTx p (encodeFrame (s.t p).lastTx)], log := s.log ++ [⟨.hostResend p, s.now⟩] })
  ∧ (∀ (p : Port) (raw : Frame) (s : State),
      exec (.phyRx p raw) s = .next (s.setRx p (s.rx p ++ [raw]))
      ∧ exec (.phyTxFail p) s = .next (s.setT p { s.t p with failLatch := true }))

/-- R221: an illegal length and a full queue drop and count; else the packet joins the tail. -/
def Obligations.EnqueueByRule : Prop :=
  ∀ (p : Port) (bytes : List Byte) (s : State),
    ((bytes = [] ∨ 8 < bytes.length) →
      exec (.enqueue p bytes) s = .next { s.setT p { s.t p with drops := (s.t p).drops + 1 } with
        log := s.log ++ [⟨.packetLength p bytes.length, s.now⟩] })
    ∧ (bytes ≠ [] → bytes.length ≤ 8 → (s.t p).queue.length = s.cfg.queueCap →
      exec (.enqueue p bytes) s = .next { s.setT p { s.t p with drops := (s.t p).drops + 1 } with
        log := s.log ++ [⟨.queueFull p bytes, s.now⟩] })
    ∧ (bytes ≠ [] → bytes.length ≤ 8 → (s.t p).queue.length ≠ s.cfg.queueCap →
      exec (.enqueue p bytes) s = .next (s.setT p { s.t p with queue := (s.t p).queue ++ [bytes] }))
    ∧ exec (.enqueue p bytes) s = .next (enqueue p bytes s)

/-- R230, R231: with nothing received, the poll recovers from a failure, sends the next byte, pops the
finished packet, or does nothing; with frames waiting it does the same and then runs the first. -/
def Obligations.PollTransmitsOrRetires : Prop :=
  ∀ (p : Port) (lineIdle : Bool) (s : State), s.rx p = [] →
    ((s.t p).failLatch = false → (s.now < (s.t p).busyUntil ∨ lineIdle = false ∨ (s.t p).queue = []) →
      exec (.poll p lineIdle) s = .next s)
    ∧ ((s.t p).failLatch = true → (s.now < (s.t p).busyUntil ∨ lineIdle = false ∨ (s.t p).queue = []) →
      exec (.poll p lineIdle) s = .next {
        s.setT p { s.t p with bytesSent := (s.t p).bytesSent - 1, failLatch := false } with
        log := s.log ++ [⟨.txFail p, s.now⟩] })
    ∧ (∀ pk q b, (s.t p).failLatch = false → (s.t p).busyUntil ≤ s.now → lineIdle = true →
        (s.t p).queue = pk :: q → pk[(s.t p).bytesSent]? = some b →
        exec (.poll p lineIdle) s = .next {
          s.setT p { s.t p with
            bytesSent := (s.t p).bytesSent + 1, lastTx := b, busyUntil := s.now + s.cfg.backoffUs } with
          out := s.out ++ [.phyTx p (encodeFrame b)] })
    ∧ (∀ pk q, (s.t p).failLatch = false → (s.t p).busyUntil ≤ s.now → lineIdle = true →
        (s.t p).queue = pk :: q → (s.t p).bytesSent = pk.length →
        exec (.poll p lineIdle) s = .next (s.setT p { s.t p with queue := q, bytesSent := 0 }))
    ∧ (∀ pk q b n, (s.t p).failLatch = true → (s.t p).busyUntil ≤ s.now → lineIdle = true →
        (s.t p).queue = pk :: q → (s.t p).bytesSent - 1 = n → pk[n]? = some b →
        exec (.poll p lineIdle) s = .next {
          s.setT p { s.t p with
            failLatch := false, bytesSent := n + 1, lastTx := b, busyUntil := s.now + s.cfg.backoffUs } with
          out := s.out ++ [.phyTx p (encodeFrame b)], log := s.log ++ [⟨.txFail p, s.now⟩] })
    ∧ (∀ raw more t, exec (.poll p lineIdle) s = .next t →
        exec (.poll p lineIdle) (s.setRx p (raw :: more))
          = exec (decodeWire p (s.t p).lastRx raw) (t.setRx p more))

/-- R235 and the flush law (the spec's inference R243): after a poll that takes a valid host byte other
than 0xFE, the queue holds exactly the engine's reply to it, `bytesSent` is 0 and the byte is the
previous host byte. -/
def Obligations.FlushLeavesOnlyTheReply : Prop :=
  ∀ (p : Port) (lineIdle : Bool) (s : State) (raw : Frame) (more : List Frame) (b : Byte),
    0 < s.cfg.queueCap → s.rx p = raw :: more → decodeFrame raw = (b, true) → b ≠ 0xFE#8 →
    ∃ t, exec (.poll p lineIdle) s = .next t
      ∧ (t.t p).queue = [hostReply (decodeWire p (s.t p).lastRx raw) s]
      ∧ (t.t p).bytesSent = 0 ∧ (t.t p).lastRx = b ∧ t.rx p = more

/-- R244's case of the queue's progress (the spec's inference from R231): with BACKOFF_US between them,
n + 1 polls with the line idle, no failure and no host byte send a packet of n bytes whole, in
order, and pop it. -/
def Obligations.PacketIsSentWhole : Prop :=
  ∀ (s : State) (p : Port) (pk : List Byte) (q : List (List Byte)) (rest : List Event),
    s.agenda = (List.replicate (pk.length + 1) [Event.advance s.cfg.backoffUs, Event.poll p true]).flatten
      ++ rest →
    (s.t p).queue = pk :: q → (s.t p).bytesSent = 0 → (s.t p).failLatch = false → s.rx p = [] →
    (s.t p).busyUntil ≤ s.now + s.cfg.backoffUs →
    ∃ t, runSteps (2 * (pk.length + 1)) s = .next t
      ∧ (t.t p).queue = q ∧ (t.t p).bytesSent = 0 ∧ t.agenda = rest
      ∧ t.out = s.out ++ pk.map (fun b => Output.phyTx p (encodeFrame b))

/-- R563's ground: `busyUntil` and `lastTx` change only at a step-2 send (R231): the step is a poll of that
port with the line idle, taken at or after the old deadline; the byte is one of the head packet's, its
frame is the first new output, and the new deadline is BACKOFF_US later than now. -/
def Obligations.SendsKeepTheBackoff : Prop :=
  ∀ (s t : State) (p : Port), step s = .next t → s.agenda.head? ≠ some .powerOn →
    ((t.t p).busyUntil = (s.t p).busyUntil ∧ (t.t p).lastTx = (s.t p).lastTx)
    ∨ (s.agenda.head? = some (.poll p true) ∧ (s.t p).busyUntil ≤ s.now
      ∧ (t.t p).busyUntil = s.now + s.cfg.backoffUs
      ∧ (∃ pk q, (s.t p).queue = pk :: q ∧ (t.t p).lastTx ∈ pk)
      ∧ s.out ++ [Output.phyTx p (encodeFrame (t.t p).lastTx)] <+: t.out)

/-- R35, R238: what a port's poll and an engine's own steps never touch of the other port. -/
def Obligations.PortsAreIndependent : Prop :=
  ∀ (s t : State),
    (∀ i ∈ [Instr.kbdRepeatFire, .ledSync] ++ [true, false].map (Instr.poll .kbd), exec i s = .next t →
      t.t1 = s.t1 ∧ t.rx1 = s.rx1 ∧ t.m = s.m ∧ t.dev = s.dev)
    ∧ (∀ u b d, (exec (.onKeyTransition u b) s = .next t ∨ exec (.kbdResetDone d) s = .next t) →
      t.t1 = s.t1 ∧ t.rx1 = s.rx1 ∧ t.m = s.m ∧ t.dev = s.dev)
    ∧ (∀ i ∈ Instr.mouseEmitFire :: [true, false].map (Instr.poll .mouse), exec i s = .next t →
      t.t0 = s.t0 ∧ t.rx0 = s.rx0 ∧ t.k = s.k ∧ t.dev = s.dev)
    ∧ (∀ b x y w d, (exec (.onMovement b x y w) s = .next t ∨ exec (.mouseResetDone d) s = .next t) →
      t.t0 = s.t0 ∧ t.rx0 = s.rx0 ∧ t.k = s.k ∧ t.dev = s.dev)

/-! ## The keyboard engine -/

/-- R353 (with R350's choice): a key of SC2_TABLE: its make or break sequence as one packet, and the
repeat. -/
def Obligations.KeyTransitionByRule : Prop :=
  ∀ (s : State) (u : Byte) (e : KeyCode), ¬ (0xE0 ≤ u.toNat ∧ u.toNat ≤ 0xE7) → u ≠ 0x48#8 →
    s.cfg.sc2Table.lookup u = some e →
    (s.k.enabled = false → ∀ pressed, exec (.onKeyTransition u pressed) s = .next s)
    ∧ (s.k.enabled = true → exec (.onKeyTransition u true) s = .next {
        enqueue .kbd (if e.ext then [0xE0#8, e.code] else [e.code]) s with
        k := { s.k with repeatKey := u, repeatTimer := some (s.now + s.k.delayMs * 1000) } })
    ∧ (s.k.enabled = true → s.k.repeatKey = u → exec (.onKeyTransition u false) s = .next {
        enqueue .kbd (if e.ext then [0xE0#8, 0xF0#8, e.code] else [0xF0#8, e.code]) s with
        k := { s.k with repeatKey := 0x00#8, repeatTimer := none } })
    ∧ (s.k.enabled = true → s.k.repeatKey ≠ u → exec (.onKeyTransition u false) s = .next
        (enqueue .kbd (if e.ext then [0xE0#8, 0xF0#8, e.code] else [0xF0#8, e.code]) s))

/-- R351: a modifier: its bit of `mods` follows it even while scanning is disabled; the codes of
MOD_TABLE; the repeat only with MODIFIER_TYPEMATIC. -/
def Obligations.ModifierTransitionByRule : Prop :=
  ∀ (s : State) (u : Byte) (n : Fin 8) (pressed : Bool) (mods : Byte), u.toNat = 0xE0 + n.val →
    (∀ i < 8, mods.getLsbD i = if i = n.val then pressed else s.k.mods.getLsbD i) →
    let e := s.cfg.modTable.get n
    let seq := if pressed then (if e.ext then [0xE0#8, e.code] else [e.code])
      else (if e.ext then [0xE0#8, 0xF0#8, e.code] else [0xF0#8, e.code])
    exec (.onKeyTransition u pressed) s = .next (
      if s.k.enabled = false then { s with k := { s.k with mods := mods } }
      else { enqueue .kbd seq s with
        k :=
          if s.cfg.modifierTypematic = false then { s.k with mods := mods }
          else if pressed then
            { s.k with mods := mods, repeatKey := u, repeatTimer := some (s.now + s.k.delayMs * 1000) }
          else if s.k.repeatKey = u then
            { s.k with mods := mods, repeatKey := 0x00#8, repeatTimer := none }
          else { s.k with mods := mods } })

/-- R352, R455: Pause: the 8-byte sequence, the 5-byte one while a Ctrl is held, nothing on release or
while scanning is disabled; the repeat is not touched.
R514: a usage outside the supported range changes nothing and is logged. -/
def Obligations.PauseAndUnsupportedKeys : Prop :=
  (∀ s : State,
      exec (.onKeyTransition 0x48#8 false) s = .next s
      ∧ (s.k.enabled = false → exec (.onKeyTransition 0x48#8 true) s = .next s)
      ∧ (s.k.enabled = true → (s.k.mods.getLsbD 0 = true ∨ s.k.mods.getLsbD 4 = true) →
          exec (.onKeyTransition 0x48#8 true) s = .next
            (enqueue .kbd [0xE0#8, 0x7E#8, 0xE0#8, 0xF0#8, 0x7E#8] s))
      ∧ (s.k.enabled = true → s.k.mods.getLsbD 0 = false → s.k.mods.getLsbD 4 = false →
          exec (.onKeyTransition 0x48#8 true) s = .next
            (enqueue .kbd [0xE1#8, 0x14#8, 0x77#8, 0xE1#8, 0xF0#8, 0x14#8, 0xF0#8, 0x77#8] s)))
  ∧ (∀ (s : State) (u : Byte) (pressed : Bool), ¬ (0xE0 ≤ u.toNat ∧ u.toNat ≤ 0xE7) → u ≠ 0x48#8 →
      s.cfg.sc2Table.lookup u = none →
      exec (.onKeyTransition u pressed) s = .next { s with log := s.log ++ [⟨.keyUnsupported u, s.now⟩] })

/-- R356: a due repeat re-emits the make sequence while scanning is enabled, and re-arms from its
deadline. -/
def Obligations.RepeatFireByRule : Prop :=
  ∀ (s : State) (d : Nat) (e : KeyCode), s.k.repeatTimer = some d → d ≤ s.now →
    ((¬ (0xE0 ≤ s.k.repeatKey.toNat ∧ s.k.repeatKey.toNat ≤ 0xE7)
        ∧ s.cfg.sc2Table.lookup s.k.repeatKey = some e)
      ∨ ∃ n : Fin 8, s.k.repeatKey.toNat = 0xE0 + n.val ∧ s.cfg.modTable.get n = e) →
    exec .kbdRepeatFire s = .next {
      (if s.k.enabled then enqueue .kbd (if e.ext then [0xE0#8, e.code] else [e.code]) s else s) with
      k := { s.k with repeatTimer := some (d + s.k.intervalUs) } }

/-- R381: a due Reset completion: one copy of its deadline goes, the self-test reply is queued, scanning
is on, the LEDs go off; that the operand names which due completion it is, is the model's choice (log 5).
R398: LedSync sends the LED byte to every valid instance that owns LEDs, by rising index, and clears
the flag. -/
def Obligations.KbdResetDoneAndLedSync : Prop :=
  (∀ (s : State) (d : Nat), d ∈ s.k.resetPending → d ≤ s.now →
      exec (.kbdResetDone d) s = .next { enqueue .kbd [0xAA#8] s with
        k := { s.k with
          resetPending := s.k.resetPending.erase d, enabled := true, ledByte := 0x00#8
          ledSyncPending := true } })
  ∧ (∀ s : State, s.k.ledSyncPending = true →
      exec .ledSync s = .next { s with
        out := s.out ++ ((List.range s.dev.length).filter (fun i =>
            s.dev[i]?.any (fun d => d.valid && d.ledsOwned))).map (fun i => Output.usbLed i s.k.ledByte)
        k := { s.k with ledSyncPending := false } })

/-- A timer step that may not be taken yet leaves the state as it is: the MODEL's choice (log 4) for what
R520 forbids ("never before"). -/
def Obligations.TimersWaitForTheirDeadline : Prop :=
  ∀ s : State,
    ((∀ d, s.k.repeatTimer = some d → s.now < d) → exec .kbdRepeatFire s = .next s)
    ∧ (∀ d, (d ∉ s.k.resetPending ∨ s.now < d) → exec (.kbdResetDone d) s = .next s)
    ∧ (s.k.ledSyncPending = false → exec .ledSync s = .next s)
    ∧ ((∀ d, s.m.emitTimer = some d → s.now < d) → exec .mouseEmitFire s = .next s)
    ∧ ∀ d, (d ∉ s.m.resetPending ∨ s.now < d) → exec (.mouseResetDone d) s = .next s

/-- The typematic schedule that R357 infers from R353 and R356: after key u is pressed at t0, by any later
time all repeats due fire, the k-th from deadline t0 + delay + (k-1) * interval, each sending the make
sequence while the queue has room, and the next is not taken before its deadline: run then, it changes
nothing, which is the model's choice (log 4). -/
def Obligations.TypematicSchedule : Prop :=
  ∀ (s : State) (u : Byte) (e : KeyCode) (k later : Nat), ¬ (0xE0 ≤ u.toNat ∧ u.toNat ≤ 0xE7) →
    u ≠ 0x48#8 → s.cfg.sc2Table.lookup u = some e → s.k.enabled = true →
    s.t0.queue.length + 1 + k ≤ s.cfg.queueCap →
    let first := s.now + s.k.delayMs * 1000
    let make := if e.ext then [0xE0#8, e.code] else [e.code]
    (k ≠ 0 → first + (k - 1) * s.k.intervalUs ≤ later) → later < first + k * s.k.intervalUs →
    ∃ s1 t, exec (.onKeyTransition u true) s = .next s1
      ∧ execAll (List.replicate k .kbdRepeatFire) { s1 with now := later } = .next t
      ∧ t.t0.queue = s.t0.queue ++ List.replicate (k + 1) make
      ∧ t.k.repeatTimer = some (first + k * s.k.intervalUs)
      ∧ exec .kbdRepeatFire t = .next t

/-- The mode table R399 infers (modes as R43 derives them): what a step does to `enabled` and to the
pending completions, by the host byte it takes. -/
def Obligations.KeyboardModeMachine : Prop :=
  ∀ (s t : State) (e : Event) (rest : List Event), s.agenda = e :: rest → e ≠ .powerOn →
    step s = .next t →
    (s.hostInstr e = some .kbdEnable → t.k.enabled = true ∧ t.k.resetPending = s.k.resetPending)
    ∧ (s.hostInstr e = some .kbdDisable → t.k.enabled = false ∧ t.k.resetPending = s.k.resetPending)
    ∧ (s.hostInstr e = some .kbdReset → t.k.enabled = false ∧ t.k.mode = .resetInProgress)
    ∧ (∀ d, e = .kbdResetDone d → d ∈ s.k.resetPending → d ≤ s.now →
        t.k.enabled = true ∧ t.k.resetPending = s.k.resetPending.erase d
        ∧ (s.k.resetPending = [d] → t.k.mode = .scanning))
    ∧ (s.hostInstr e ∉ [some .kbdEnable, some .kbdDisable, some .kbdReset] →
        (∀ d, e ≠ .kbdResetDone d) → t.k.mode = s.k.mode ∧ t.k.enabled = s.k.enabled)
    ∧ (s.k.resetPending = [] → s.hostInstr e = some .kbdEnable → t.k.mode = .scanning)
    ∧ (s.k.resetPending = [] → s.hostInstr e = some .kbdDisable → t.k.mode = .disabled)

/-! ## The mouse engine -/

/-- R410: the accumulators wrap, the buttons are masked, a button change marks the mouse as moving. -/
def Obligations.MovementAccumulates : Prop :=
  ∀ (s : State) (buttons : Byte) (dx dy wheel : Int),
    exec (.onMovement buttons dx dy wheel) s = .next { s with
      m := { s.m with
        buttons := buttons &&& 0x1F#8
        wasMoving := s.m.wasMoving || (buttons &&& 0x1F#8) != s.m.buttons
        accDx := BitVec.ofInt 16 (s.m.accDx.toInt + dx)
        accDy := BitVec.ofInt 16 (s.m.accDy.toInt + dy)
        accWheel := BitVec.ofInt 8 (s.m.accWheel.toInt + wheel) } }

/-- R412, R416: a due tick re-arms from its deadline; with nothing pending and the mouse at rest that is
all; else it sends one packet, keeps the movement beyond the clamp, and drops the wheel's. -/
def Obligations.EmitTickByRule : Prop :=
  ∀ (s : State) (d : Nat), s.m.emitTimer = some d → d ≤ s.now → s.m.rate ≠ 0x00#8 →
    let pending : Prop := s.m.accDx ≠ 0#16 ∨ s.m.accDy ≠ 0#16 ∨ s.m.accWheel ≠ 0#8
    let next := d + 1000000 / s.m.rate.toNat
    (¬ pending → s.m.wasMoving = false →
      exec .mouseEmitFire s = .next { s with m := { s.m with emitTimer := some next } })
    ∧ ((pending ∨ s.m.wasMoving = true) → ∃ (dx dy : BitVec 16) (moving : Bool),
        dx.toInt = s.m.accDx.toInt - min (max s.m.accDx.toInt (-255)) 255
        ∧ dy.toInt = s.m.accDy.toInt - min (max s.m.accDy.toInt (-255)) 255
        ∧ (moving = true ↔ pending)
        ∧ exec .mouseEmitFire s = .next { enqueue .mouse (movementPacket s.m) s with
            m := { s.m with
              emitTimer := some next, accDx := dx, accDy := dy, accWheel := 0#8, wasMoving := moving } })

/-- R413, R414, R415: byte 1 has the buttons, a constant 1, the signs and no overflow bit; sign and byte
are the clamped 9-bit values, y negated, but for the 0xAA bump; byte 4 by the level. -/
def Obligations.MovementPacketByRule : Prop :=
  ∀ (m : Mouse) (cx cy cw : Int), cx = min (max m.accDx.toInt (-255)) 255 →
    cy = - min (max m.accDy.toInt (-255)) 255 → cw = min (max m.accWheel.toInt (-8)) 7 →
    ∃ b1 b2 b3 tail, movementPacket m = b1 :: b2 :: b3 :: tail
      ∧ (∀ i < 3, b1.getLsbD i = m.buttons.getLsbD i)
      ∧ b1.getLsbD 3 = true ∧ b1.getLsbD 4 = decide (cx < 0) ∧ b1.getLsbD 5 = decide (cy < 0)
      ∧ b1.getLsbD 6 = false ∧ b1.getLsbD 7 = false
      ∧ nineBit (b1.getLsbD 4) b2 = (if cx = 170 ∨ cx = -86 then cx + 1 else cx)
      ∧ nineBit (b1.getLsbD 5) b3 = (if cy = 170 ∨ cy = -86 then cy + 1 else cy)
      ∧ (m.level = .standard → tail = [])
      ∧ (m.level = .intelliMouse → ∃ b4 : Byte, tail = [b4] ∧ b4.toInt = cw)
      ∧ (m.level = .explorer → ∃ b4 : Byte, tail = [b4]
          ∧ (b4.extractLsb' 0 4).toInt = cw ∧ b4.getLsbD 4 = m.buttons.getLsbD 3
          ∧ b4.getLsbD 5 = m.buttons.getLsbD 4 ∧ b4.getLsbD 6 = false ∧ b4.getLsbD 7 = false)

/-- The residual law that R417 infers: with no movement between ticks, an accumulated dx of D > 0 leaves in
ceil(D / 255) packets, each carrying 255 but the last, which carries the rest (bumped if it is 0xAA). -/
def Obligations.ResidualLeavesInFullPackets : Prop :=
  ∀ (s : State) (d n : Nat) (D : Nat), s.m.emitTimer = some d → s.m.rate ≠ 0x00#8 →
    s.m.accDx.toInt = D → 0 < D → n = (D + 254) / 255 →
    d + n * (1000000 / s.m.rate.toNat) ≤ s.now → s.t1.queue.length + n ≤ s.cfg.queueCap →
    ∃ t pkts, execAll (List.replicate n .mouseEmitFire) s = .next t
      ∧ t.t1.queue = s.t1.queue ++ pkts ∧ pkts.length = n ∧ t.m.accDx = 0#16
      ∧ ∀ k < n, ∃ b1 b2 tail, pkts[k]? = some (b1 :: b2 :: tail) ∧ b1.getLsbD 4 = false
          ∧ b2.toNat = (if k + 1 < n then 255
              else if D - 255 * (n - 1) = 170 then 171 else D - 255 * (n - 1))

/-- R432's level table: a rate parameter raises the level by the two magic values, 0xFF returns it to
Standard, and no other step changes it. -/
def Obligations.MouseLevelMachine : Prop :=
  ∀ (s t : State) (e : Event) (rest : List Event), s.agenda = e :: rest → e ≠ .powerOn →
    step s = .next t →
    (s.hostInstr e = some .mouseReset → t.m.level = .standard)
    ∧ (∀ b, s.hostInstr e = some (.mouseRateParam b) →
        t.m.magic.toNat = (s.m.magic.toNat * 256 + b.toNat) % 2 ^ 24
        ∧ t.m.level = (if s.m.level = .standard ∧ t.m.magic = 0xC86450#24 then .intelliMouse
            else if s.m.level = .intelliMouse ∧ t.m.magic = 0xC8C850#24 then .explorer else s.m.level))
    ∧ (s.hostInstr e ≠ some .mouseReset → (∀ b, s.hostInstr e ≠ some (.mouseRateParam b)) →
        t.m.level = s.m.level)

/-- R433's streaming table: 0xF4 starts streaming and arms the tick, 0xF5 and 0xFF stop it and cancel the
tick, and no other step changes `streaming`. -/
def Obligations.StreamingMachine : Prop :=
  (State.reset.m.streaming = false ∧ State.reset.m.emitTimer = none) ∧
  ∀ (s t : State) (e : Event) (rest : List Event), s.agenda = e :: rest → e ≠ .powerOn →
    step s = .next t →
    (s.hostInstr e = some .mouseEnable → t.m.streaming = true
        ∧ t.m.emitTimer = some (s.now + 1000000 / s.m.rate.toNat))
    ∧ (s.hostInstr e ∈ [some .mouseDisable, some .mouseReset] →
        t.m.streaming = false ∧ t.m.emitTimer = none)
    ∧ (s.hostInstr e ∉ [some .mouseEnable, some .mouseDisable, some .mouseReset] →
        t.m.streaming = s.m.streaming)

/-! ## Descriptor items -/

/-- R270 to R275: the six global items. -/
def Obligations.GlobalItemsByRule : Prop :=
  ∀ (d : ItemData) (s : State) (n : Nat), n = itemValue d →
    exec (.hidUsagePage d) s = .next { s with parser := { s.parser with gUsagePage := BitVec.ofNat 16 n } }
    ∧ exec (.hidReportSize d) s = .next { s with parser := { s.parser with gReportSize := BitVec.ofNat 8 n } }
    ∧ exec (.hidReportId d) s = .next { s with parser := { s.parser with gReportId := BitVec.ofNat 8 n } }
    ∧ exec (.hidReportCount d) s = .next { s with parser := { s.parser with gReportCount := n } }
    ∧ (∃ v : BitVec 32, v.toInt = itemSignedValue d
        ∧ exec (.hidLogicalMin d) s = .next { s with parser := { s.parser with gLogMin := v } }
        ∧ exec (.hidLogicalMax d) s = .next { s with parser := { s.parser with gLogMax := v } })

/-- R276, R279, R263, R287: the items that change no interpreter state.
R286, R283: a reserved Main tag only clears the locals. -/
def Obligations.InertItemsByRule : Prop :=
  (∀ (d : ItemData) (tag : BitVec 4) (ltag : Byte) (data : List Byte) (s : State),
      ∀ i ∈ [Instr.hidPhysicalMin d, .hidPhysicalMax d, .hidUnitExponent d, .hidUnit d, .hidPush d,
          .hidPop d, .hidGlobalReservedC4 d, .hidGlobalReservedD4 d, .hidGlobalReservedE4 d,
          .hidGlobalReservedF4 d, .hidDesignatorIndex d, .hidDesignatorMin d, .hidDesignatorMax d,
          .hidStringIndex d, .hidStringMin d, .hidStringMax d, .hidDelimiter d, .hidLocalReserved68 d,
          .hidLocalReservedB8 d, .hidLocalReservedC8 d, .hidLocalReservedD8 d, .hidLocalReservedE8 d,
          .hidLocalReservedF8 d, .hidLongItem ltag data, .hidReservedType3 tag d],
        exec i s = .next s)
  ∧ (∀ (d : ItemData) (s : State),
      ∀ i ∈ [Instr.hidMainReserved00 d, .hidMainReserved10 d, .hidMainReserved20 d, .hidMainReserved30 d,
          .hidMainReserved40 d, .hidMainReserved50 d, .hidMainReserved60 d, .hidMainReserved70 d,
          .hidMainReservedD0 d, .hidMainReservedE0 d, .hidMainReservedF0 d],
        exec i s = .next { s with
          parser := { s.parser with lUsages := [], lUsageMin := none, lUsageMax := none } })

/-- R277, R278: Usage joins the queue; a Minimum and a Maximum, in either order, queue their range. -/
def Obligations.LocalItemsByRule : Prop :=
  ∀ (d : ItemData) (s : State) (v : Usage), v = BitVec.ofNat 16 (itemValue d) →
    exec (.hidUsage d) s = .next { s with parser := { s.parser with lUsages := s.parser.lUsages ++ [v] } }
    ∧ (s.parser.lUsageMax = none → exec (.hidUsageMin d) s = .next { s with
        parser := { s.parser with lUsageMin := some v } })
    ∧ (s.parser.lUsageMin = none → exec (.hidUsageMax d) s = .next { s with
        parser := { s.parser with lUsageMax := some v } })
    ∧ (∀ w, s.parser.lUsageMax = some w → exec (.hidUsageMin d) s = .next { s with
        parser := { s.parser with
          lUsageMin := none, lUsageMax := none
          lUsages := s.parser.lUsages
            ++ (List.range' v.toNat (w.toNat + 1 - v.toNat)).map (BitVec.ofNat 16) } })
    ∧ (∀ w, s.parser.lUsageMin = some w → exec (.hidUsageMax d) s = .next { s with
        parser := { s.parser with
          lUsageMin := none, lUsageMax := none
          lUsages := s.parser.lUsages
            ++ (List.range' w.toNat (v.toNat + 1 - w.toNat)).map (BitVec.ofNat 16) } })

/-- R284, R285: a collection at depth 0 names the report, its end at depth 1 closes it into the table
(which has room: the walk stops when it has none, R264), and an unbalanced end only clears the locals. -/
def Obligations.CollectionsByRule : Prop :=
  ∀ (d : ItemData) (s : State) (q : Parser),
    q = { s.parser with lUsages := [], lUsageMin := none, lUsageMax := none } →
    (s.parser.depth = 0 → exec (.hidCollection d) s = .next { s with
      parser := { q with
        depth := 1
        cur := { q.cur with
          topUsagePage := s.parser.gUsagePage, topUsage := s.parser.lUsages.head?.getD 0#16 } } })
    ∧ (s.parser.depth ≠ 0 → exec (.hidCollection d) s = .next { s with
      parser := { q with depth := s.parser.depth + 1 } })
    ∧ (s.parser.depth = 0 → exec (.hidEndCollection d) s = .next { s with parser := q })
    ∧ (s.parser.depth = 1 → s.parser.table.length < reportMax →
      exec (.hidEndCollection d) s = .next { s with
        parser := { q with
          depth := 0
          table := s.parser.table ++ [{ s.parser.cur with reportId := s.parser.gReportId }]
          cur := ⟨0x00#8, 0#16, 0#16, []⟩, offIn := 0, offOut := 0, offFeat := 0 } })
    ∧ (2 ≤ s.parser.depth → exec (.hidEndCollection d) s = .next { s with
      parser := { q with depth := s.parser.depth - 1 } })

/-- R280 to R283, for each of the three kinds. Where the log record says the item stands is the model's
reading (log 8). -/
def Obligations.MainDataItemsMakeFields : Prop :=
  ∀ (k : ItemKind) (mk : ItemData → Instr) (d : ItemData) (s : State),
    (k, mk) ∈ [(ItemKind.input, Instr.hidInput), (.output, Instr.hidOutput), (.feature, Instr.hidFeature)] →
    let q := s.parser
    let c := q.gReportCount
    let w := q.gReportSize.toNat
    let field := fun i : Nat => (⟨BitVec.ofNat 16 (q.off k + i * w), q.gReportSize, k, q.gUsagePage,
      q.lUsages[i]?.getD (q.lUsages.getLast?.getD 0#16), q.gLogMin, q.gLogMax⟩ : Field)
    let constant : Prop := itemValue d % 2 = 1
    ∃ t fields, exec (mk d) s = .next t
      ∧ (constant → fields = q.cur.fields)
      ∧ (¬ constant → fields.length = q.cur.fields.length + min c (fieldMax - q.cur.fields.length)
          ∧ q.cur.fields <+: fields
          ∧ ∀ i < min c (fieldMax - q.cur.fields.length), fields[q.cur.fields.length + i]? = some (field i))
      ∧ t = { s with
          log := if ¬ constant ∧ fieldMax - q.cur.fields.length < c
            then s.log ++ [⟨.descFieldsTruncated q.pos, s.now⟩] else s.log
          parser := { q with
            cur := { q.cur with fields := fields }
            offIn := q.offIn + (if k = .input then c * w else 0)
            offOut := q.offOut + (if k = .output then c * w else 0)
            offFeat := q.offFeat + (if k = .feature then c * w else 0)
            lUsages := [], lUsageMin := none, lUsageMax := none } }

/-- R260: parse writes only the interpreter and appends to the log, for every descriptor.
R48, R264, R282: whatever the descriptor, parse returns at most 8 reports of at most 32 fields. -/
def Obligations.ParseIsPureAndBounded : Prop :=
  (∀ (desc : List Byte) (s : State), ∃ (q : Parser) (l : List LogRecord),
      parse desc s = { s with parser := q, log := s.log ++ l })
  ∧ (∀ (desc : List Byte) (s : State), (parse desc s).parser.table.length ≤ reportMax
      ∧ ∀ r ∈ (parse desc s).parser.table, r.fields.length ≤ fieldMax)

/-- R301: the three-button mouse of the spec's property 3. -/
def Obligations.ThreeButtonMouseParses : Prop :=
  ∀ s : State, ∃ r, (parse [0x05#8, 0x01#8, 0x09#8, 0x02#8, 0xA1#8, 0x01#8, 0x09#8, 0x01#8, 0xA1#8, 0x00#8,
      0x05#8, 0x09#8, 0x19#8, 0x01#8, 0x29#8, 0x03#8, 0x15#8, 0x00#8, 0x25#8, 0x01#8, 0x95#8, 0x03#8,
      0x75#8, 0x01#8, 0x81#8, 0x02#8, 0x95#8, 0x01#8, 0x75#8, 0x05#8, 0x81#8, 0x01#8, 0x05#8, 0x01#8,
      0x09#8, 0x30#8, 0x09#8, 0x31#8, 0x15#8, 0x81#8, 0x25#8, 0x7F#8, 0x75#8, 0x08#8, 0x95#8, 0x02#8,
      0x81#8, 0x06#8, 0xC0#8, 0xC0#8] s).parser.table = [r]
    ∧ r.fields.map (fun f => (f.bitOffset.toNat, f.bitWidth.toNat)) = [(0, 1), (1, 1), (2, 1), (8, 8), (16, 8)]
    ∧ r.fields.map (fun f => extractField f [0x01#8, 0x0A#8, 0xF6#8]) = [1, 0, 0, 10, -10]
    ∧ r.fields.map (fun f => extractField f [0x01#8, 0x00#8, 0x0A#8, 0xF6#8]) = [1, 0, 0, 0, 10]

/-- R300, R104, R108: bit k of the value is report bit off + k, 0 beyond the report; two's complement
exactly when logicalMin < 0; at most 32 bits. -/
def Obligations.ExtractFieldByRule : Prop :=
  ∀ (f : Field) (rep : List Byte) (w : Nat), w = min f.bitWidth.toNat 32 →
    ∃ v : Nat, v < 2 ^ w
      ∧ (∀ k < w, v.testBit k = (rep[(f.bitOffset.toNat + k) / 8]?.getD 0x00#8).getLsbD
          ((f.bitOffset.toNat + k) % 8))
      ∧ extractField f rep = (if f.logicalMin.toInt < 0 ∧ 0 < w ∧ 2 ^ (w - 1) ≤ v then (v : Int) - 2 ^ w else v)

/-! ## USB events -/

/-- R310: a mount takes the slot of its (addr, itf), else the lowest free one; with none it is ignored.
The reports are what parse returns; the interpreter is left at its initial values (R55).
R330: an unmount frees the slot of its (addr, itf) and touches nothing else. -/
def Obligations.MountAndUnmountByRule : Prop :=
  (∀ (s : State) (addr itf proto : Byte) (desc : List Byte),
      let mine := fun d : HidInstance => d.valid = true ∧ d.addr = addr ∧ d.itf = itf
      ((∀ d ∈ s.dev, d.valid = true ∧ ¬ mine d) →
        exec (.usbMount addr itf proto desc) s = .next { s with
          log := s.log ++ [⟨.instanceTableFull addr itf, s.now⟩] })
      ∧ ∀ (i : Nat) (d : HidInstance), s.dev[i]? = some d →
        ((mine d ∧ ∀ j < i, ∀ e, s.dev[j]? = some e → ¬ mine e)
          ∨ ((∀ e ∈ s.dev, ¬ mine e) ∧ d.valid = false ∧ ∀ j < i, ∀ e, s.dev[j]? = some e → e.valid = true)) →
        let rs := (parse desc s).parser.table
        exec (.usbMount addr itf proto desc) s = .next { s with
          parser := Parser.init
          log := (parse desc s).log
          out := s.out ++ [.usbRequestReport i]
          dev := s.dev.set i ⟨true, addr, itf, proto, rs, isMouseOf proto rs, !isMouseOf proto rs, 0x00#8,
            Vector.replicate 6 0x00#8, 0#128⟩ })
  ∧ (∀ (s : State) (addr itf : Byte),
      let mine := fun d : HidInstance => d.valid = true ∧ d.addr = addr ∧ d.itf = itf
      ((∀ d ∈ s.dev, ¬ mine d) → exec (.usbUnmount addr itf) s = .next s)
      ∧ ∀ (i : Nat) (d : HidInstance), s.dev[i]? = some d → mine d →
        (∀ j < i, ∀ e, s.dev[j]? = some e → ¬ mine e) →
        exec (.usbUnmount addr itf) s = .next { s with dev := s.dev.set i { d with valid := false } })

/-- R315, R316: an unknown instance; an unmatched report; else the report is routed, and the next one is
asked for (R331). -/
def Obligations.ReportSelectionByRule : Prop :=
  ∀ (s : State) (addr itf : Byte) (rep : List Byte),
    let mine := fun d : HidInstance => d.valid = true ∧ d.addr = addr ∧ d.itf = itf
    ((∀ d ∈ s.dev, ¬ mine d) → exec (.usbReport addr itf rep) s = .next { s with
      log := s.log ++ [⟨.unknownInstance addr itf, s.now⟩] })
    ∧ ∀ (i : Nat) (d : HidInstance), s.dev[i]? = some d → mine d →
      (∀ j < i, ∀ e, s.dev[j]? = some e → ¬ mine e) →
      let ids : Prop := ∃ r ∈ d.reports, r.reportId ≠ 0x00#8
      let asked := fun t : State => ({ t with out := t.out ++ [.usbRequestReport i] } : State)
      (ids → rep = [] → exec (.usbReport addr itf rep) s = .next (asked { s with
        log := s.log ++ [⟨.reportUnmatched i none, s.now⟩] }))
      ∧ (∀ rid payload, ids → rep = rid :: payload → (∀ r ∈ d.reports, r.reportId ≠ rid) →
        exec (.usbReport addr itf rep) s = .next (asked { s with
          log := s.log ++ [⟨.reportUnmatched i (some rid), s.now⟩] }))
      ∧ (∀ rid payload before rd after, ids → rep = rid :: payload → d.reports = before ++ rd :: after →
        rd.reportId = rid → (∀ r ∈ before, r.reportId ≠ rid) →
        exec (.usbReport addr itf rep) s = .next (asked (route i (some rd) payload s)))
      ∧ (¬ ids → exec (.usbReport addr itf rep) s = .next (asked (route i d.reports.head? rep s)))

/-- R317: the top-level usage, or the boot protocol where there is no descriptor, decides the path. -/
def Obligations.RoutingByRule : Prop :=
  ∀ (s : State) (i : Nat) (d : HidInstance) (rd : Report) (payload : List Byte), s.dev[i]? = some d →
    ((rd.topUsagePage, rd.topUsage) ∈ [(0x01#16, 0x06#16), (0x01#16, 0x07#16)] →
      route i (some rd) payload s = keyboardReport i (keysFromFields rd payload) s)
    ∧ ((rd.topUsagePage, rd.topUsage) ∈ [(0x01#16, 0x01#16), (0x01#16, 0x02#16)] →
      route i (some rd) payload s = mouseReport (movementFromFields rd payload) s)
    ∧ ((rd.topUsagePage, rd.topUsage) ∉
        [(0x01#16, 0x06#16), (0x01#16, 0x07#16), (0x01#16, 0x01#16), (0x01#16, 0x02#16)] →
      route i (some rd) payload s = { s with log := s.log ++ [⟨.reportIgnored i, s.now⟩] })
    ∧ (d.itfProtocol = 1#8 → route i none payload s = keyboardReport i (keysFromBoot payload) s)
    ∧ (d.itfProtocol = 2#8 → route i none payload s = mouseReport (movementFromBoot payload) s)
    ∧ (d.itfProtocol ≠ 1#8 → d.itfProtocol ≠ 2#8 →
      route i none payload s = { s with log := s.log ++ [⟨.reportIgnored i, s.now⟩] })

/-- R318: what the fields of a keyboard report say is pressed; a rollover discards the report. -/
def Obligations.KeyboardFieldsByRule : Prop :=
  ∀ (rd : Report) (payload : List Byte),
    let fs := rd.fields.filter (fun f => f.itemKind = .input ∧ f.usagePage = 0x07#16)
    let bits := fs.filter (fun f => f.bitWidth = 1#8 ∧ extractField f payload ≠ 0)
    let slots := (fs.filter (fun f => 2 ≤ f.bitWidth.toNat)).map (fun f => BitVec.ofInt 8 (extractField f payload))
    let r := keysFromFields rd payload
    (∀ n < 8, r.mods.getLsbD n = true ↔
        (∃ f ∈ bits, f.usage.toNat = 0xE0 + n) ∨ ∃ c ∈ slots, c.toNat = 0xE0 + n)
    ∧ (∀ n < 128, r.bitmap.getLsbD n = true ↔ ∃ f ∈ bits, f.usage.toNat = n)
    ∧ (r.rollover = true ↔ 0x01#8 ∈ slots)
    ∧ r.arr = ((slots.filter (fun c => 4 ≤ c.toNat ∧ ¬ (0xE0 ≤ c.toNat ∧ c.toNat ≤ 0xE7))).eraseDups).take 6
    ∧ ∀ i s, keyboardReport i r s = if 0x01#8 ∈ slots then { s with log := s.log ++ [⟨.rollover i, s.now⟩] }
        else applyKeyboard i r s

/-- R319: what a boot keyboard report says is pressed; a rollover discards the report. -/
def Obligations.BootKeyboardByRule : Prop :=
  ∀ payload : List Byte,
    let b := fun k => payload[k]?.getD 0x00#8
    let slots := [b 2, b 3, b 4, b 5, b 6, b 7]
    let r := keysFromBoot payload
    (∀ n < 8, r.mods.getLsbD n = true ↔ (b 0).getLsbD n = true ∨ ∃ c ∈ slots, c.toNat = 0xE0 + n)
    ∧ r.bitmap = 0#128 ∧ (r.rollover = true ↔ 0x01#8 ∈ slots)
    ∧ r.arr = (slots.filter (fun c => 4 ≤ c.toNat ∧ ¬ (0xE0 ≤ c.toNat ∧ c.toNat ≤ 0xE7))).eraseDups
    ∧ ∀ i s, keyboardReport i r s = if 0x01#8 ∈ slots then { s with log := s.log ++ [⟨.rollover i, s.now⟩] }
        else applyKeyboard i r s

/-- R320: the transitions of a report: every changed modifier by rising bit, then every key no longer
reported, then every key newly reported, each by rising usage; then the instance remembers the report. -/
def Obligations.KeyChangesByRule : Prop :=
  ∀ (s : State) (i : Nat) (d : HidInstance) (r : KeyReport), s.dev[i]? = some d → r.arr.length ≤ 6 →
    0x00#8 ∉ r.arr →
    let old := fun u : Byte => (u.toNat < 128 ∧ d.nkroBitmap.getLsbD u.toNat = true)
      ∨ (u ≠ 0x00#8 ∧ u ∈ d.bootKeyArray.toList)
    let new := fun u : Byte => (u.toNat < 128 ∧ r.bitmap.getLsbD u.toNat = true) ∨ u ∈ r.arr
    ∃ ms rel press : List Byte,
      (∀ u, u ∈ ms ↔ ∃ n < 8, u.toNat = 0xE0 + n ∧ d.modifierByte.getLsbD n ≠ r.mods.getLsbD n)
      ∧ (∀ u, u ∈ rel ↔ old u ∧ ¬ new u) ∧ (∀ u, u ∈ press ↔ new u ∧ ¬ old u)
      ∧ (∀ l ∈ [ms, rel, press], l.Pairwise (fun a b => a.toNat < b.toNat))
      ∧ ∃ t, execAll (ms.map (fun u => Instr.onKeyTransition u (r.mods.getLsbD (u.toNat - 0xE0)))
            ++ rel.map (fun u => Instr.onKeyTransition u false)
            ++ press.map (fun u => Instr.onKeyTransition u true)) s = .next t
        ∧ applyKeyboard i r s = { t with dev := t.dev.set i { d with
            modifierByte := r.mods, nkroBitmap := r.bitmap
            bootKeyArray := Vector.ofFn (fun j => r.arr[j.val]?.getD 0x00#8) } }

/-- R321: buttons 1 to 5 of the Button page, and the last X, Y and wheel of the Generic Desktop page, go to
onMovement. -/
def Obligations.MouseFieldsByRule : Prop :=
  ∀ (rd : Report) (payload : List Byte) (s : State),
    let fs := rd.fields.filter (fun f => f.itemKind = .input)
    let axis := fun u : Usage => (((fs.filter (fun f => f.usagePage = 0x01#16 ∧ f.usage = u)).getLast?).map
      (fun f => extractField f payload)).getD 0
    ∃ buttons : Byte,
      (∀ n < 8, buttons.getLsbD n = true ↔ n < 5 ∧
        ∃ f ∈ fs, f.usagePage = 0x09#16 ∧ f.usage.toNat = n + 1 ∧ extractField f payload ≠ 0)
      ∧ exec (.onMovement buttons (axis 0x30#16) (axis 0x31#16) (axis 0x38#16)) s
        = .next (mouseReport (movementFromFields rd payload) s)

/-- R322, with R410: a boot mouse's report (protocol 2, no descriptor) from arrival to accumulators. -/
def Obligations.BootMouseReportByRule : Prop :=
  ∀ (s : State) (addr itf : Byte) (rep : List Byte) (i : Nat) (d : HidInstance), s.dev[i]? = some d →
    d.valid = true → d.addr = addr → d.itf = itf →
    (∀ j < i, ∀ e, s.dev[j]? = some e → ¬ (e.valid = true ∧ e.addr = addr ∧ e.itf = itf)) →
    d.reports = [] → d.itfProtocol = 2#8 →
    let b := fun k => rep[k]?.getD 0x00#8
    let buttons := b 0 &&& 0x1F#8
    exec (.usbReport addr itf rep) s = .next { s with
      out := s.out ++ [.usbRequestReport i]
      m := { s.m with
        buttons := buttons
        wasMoving := s.m.wasMoving || buttons != s.m.buttons
        accDx := BitVec.ofInt 16 (s.m.accDx.toInt + (b 1).toInt)
        accDy := BitVec.ofInt 16 (s.m.accDy.toInt + (b 2).toInt)
        accWheel := BitVec.ofInt 8 (s.m.accWheel.toInt
          + (if 4 ≤ rep.length then (b 3).toInt else 0)) } }

/-- The idempotence that R332 infers from R320: the same keyboard report again, when the first was taken
as one (R318 or R319, no rollover), only asks for the next report. -/
def Obligations.RepeatedKeyboardReportIsSilent : Prop :=
  ∀ (s s1 : State) (addr itf : Byte) (rep payload : List Byte) (i : Nat) (rd : Option Report) (r : KeyReport),
    findInstance addr itf s.dev = some i → selectReport (s.devAt i) rep = .selected rd payload →
    ((∃ rd', rd = some rd' ∧ rd'.isKeyboard = true ∧ r = keysFromFields rd' payload)
      ∨ (rd = none ∧ (s.devAt i).itfProtocol = 1#8 ∧ r = keysFromBoot payload)) →
    r.rollover = false → exec (.usbReport addr itf rep) s = .next s1 →
    exec (.usbReport addr itf rep) s1 = .next { s1 with out := s1.out ++ [.usbRequestReport i] }

/-! ## The whole machine -/

/-- Power-on. R551: every field of the power-on state, for every value of the parameters, and POWER_ON_BAT's
queues. R6, R441 to R443, R450, R460, R470, R471: the parameters of State.reset; their tables are the
spec's general knowledge but for A and Left Arrow (log 19). R550, R555: applying power again loses all
state; that the outputs so far and the environment's events stay is the model's choice (log 17), as are
the values of the free slots and of `codec` inside `State.powerOn` (log 10, log 6). -/
def Obligations.PowerOnState : Prop :=
  (∀ c : Params, let s := State.powerOn c
    s.cfg = c ∧ s.now = 0 ∧ s.rx0 = [] ∧ s.rx1 = [] ∧ s.log = []
    ∧ s.t0 = ⟨if c.powerOnBat then [[0xAA#8]] else [], 0, 0x00#8, 0x00#8, 0, false, 0⟩
    ∧ s.t1 = ⟨if c.powerOnBat then [[0xAA#8, 0x00#8]] else [], 0, 0x00#8, 0x00#8, 0, false, 0⟩
    ∧ s.k = ⟨true, 0x00#8, 0x00#8, c.typematicDelayMs.get 1, c.typematicIntervalUs.get 0x0B, none, 0x00#8,
        false, []⟩
    ∧ s.m = ⟨false, .standard, 0#24, 100#8, 0x00#8, 0#16, 0#16, 0#8, false, none, []⟩
    ∧ s.dev.length = c.deviceMax ∧ ∀ d ∈ s.dev, d.valid = false)
  ∧ (State.reset = State.powerOn State.reset.cfg ∧ State.reset.k.delayMs = 500
    ∧ State.reset.k.intervalUs = 91743)
  ∧ (let c := State.reset.cfg
    c.backoffUs = 1000 ∧ c.queueCap = 8 ∧ c.deviceMax = 4 ∧ c.mouseResetDelayMs = 500
    ∧ c.modifierTypematic = false ∧ c.powerOnBat = false
    ∧ c.mouseStatusReply.toList = [0xFA#8, 0x00#8, 0x02#8, 0x64#8]
    ∧ (∀ i : Fin 32, c.typematicIntervalUs.get i = (20000000 + tenthsOfCps.get i) / (2 * tenthsOfCps.get i))
    ∧ c.typematicDelayMs.toList = [250, 500, 750, 1000]
    ∧ (∀ p : Fin 8, let b : Byte := BitVec.ofNat 8 p.val
        (c.ledTable.get p).getLsbD 0 = b.getLsbD 1 ∧ (c.ledTable.get p).getLsbD 1 = b.getLsbD 2
        ∧ (c.ledTable.get p).getLsbD 2 = b.getLsbD 0 ∧ c.ledTable.get p &&& 0xF8#8 = 0x00#8)
    ∧ (∀ n : Fin 8, c.modTable.get n = ⟨decide (n.val ∈ [3, 4, 6, 7]), modifierCodes.get n⟩)
    ∧ c.sc2Table.lookup 0x04#8 = some ⟨false, 0x1C#8⟩ ∧ c.sc2Table.lookup 0x50#8 = some ⟨true, 0x6B#8⟩
    ∧ c.sc2Table.length = 99
    ∧ ∀ u : Byte, c.sc2Table.lookup u =
        if 0x04 ≤ u.toNat ∧ u.toNat ≤ 0x67 ∧ u ≠ 0x48#8 then
          some ⟨decide (u.toNat ∈ extendedUsages), BitVec.ofNat 8 (set2Codes.getD (u.toNat - 0x04) 0)⟩
        else none)
  ∧ ∀ (s : State) (rest : List Event), s.agenda = .powerOn :: rest →
      step s = .next { State.powerOn s.cfg with out := s.out, agenda := rest }

/-- The model's state after power-on satisfies the invariant. -/
def Obligations.ResetSatisfiesInvariant : Prop :=
  Inv State.reset

/-- Every step keeps the invariants of 10_state: R33, R37, R39, R40, R41, R42, R47, R48 and R55's
capacities, for every state and every event. -/
def Obligations.StepKeepsInvariant : Prop :=
  ∀ s t : State, Inv s → step s = .next t → Inv t

/-- No step stops: R516 ("the block never halts or stops responding"), for the machine and for every
instruction, well formed or not. -/
def Obligations.NothingStops : Prop :=
  (∀ s : State, ∃ t, step s = .next t) ∧ ∀ (i : Instr) (s : State), ∃ t, exec i s = .next t

/-- R56, R500: the log has no effect on any other state: states that differ only in it step to states
that differ only in it. -/
def Obligations.LogIsNeverRead : Prop :=
  ∀ s t : State, SameButLog s t → ∃ s' t', step s = .next s' ∧ step t = .next t' ∧ SameButLog s' t'

/-- The log and the outputs only grow (R56, R9), but for the log at power-on (R551).
R32: only the time agent advances `now`, and it changes nothing else (R576); power-on sets it to 0.
The parameters are never written (R57). -/
def Obligations.LogOutputsTimeAndParameters : Prop :=
  (∀ s t : State, step s = .next t →
      s.out <+: t.out ∧ (s.agenda.head? ≠ some .powerOn → s.log <+: t.log))
  ∧ (∀ s t : State, step s = .next t →
      t.cfg = s.cfg
      ∧ (∀ us rest, s.agenda = .advance us :: rest → t = { s with now := s.now + us, agenda := rest })
      ∧ ((∀ us, s.agenda.head? ≠ some (.advance us)) → s.agenda.head? ≠ some .powerOn → t.now = s.now)
      ∧ (s.agenda.head? = some .powerOn → t.now = 0))
end

