-- ==== Sys2Proof/Laws/State.lean ====
section
/-! SUPPORT. The update lemmas of State: one per field per named update, true by rfl, so that no proof
unfolds a record update. -/

namespace Sys2Proof.Machine

/-! ## `State.setK` -/

@[simp] theorem State.setK_cfg (s : State) (x : Keyboard) : (s.setK x).cfg = s.cfg := rfl
@[simp] theorem State.setK_now (s : State) (x : Keyboard) : (s.setK x).now = s.now := rfl
@[simp] theorem State.setK_t0 (s : State) (x : Keyboard) : (s.setK x).t0 = s.t0 := rfl
@[simp] theorem State.setK_t1 (s : State) (x : Keyboard) : (s.setK x).t1 = s.t1 := rfl
@[simp] theorem State.setK_rx0 (s : State) (x : Keyboard) : (s.setK x).rx0 = s.rx0 := rfl
@[simp] theorem State.setK_rx1 (s : State) (x : Keyboard) : (s.setK x).rx1 = s.rx1 := rfl
@[simp] theorem State.setK_k (s : State) (x : Keyboard) : (s.setK x).k = x := rfl
@[simp] theorem State.setK_m (s : State) (x : Keyboard) : (s.setK x).m = s.m := rfl
@[simp] theorem State.setK_dev (s : State) (x : Keyboard) : (s.setK x).dev = s.dev := rfl
@[simp] theorem State.setK_parser (s : State) (x : Keyboard) : (s.setK x).parser = s.parser := rfl
@[simp] theorem State.setK_log (s : State) (x : Keyboard) : (s.setK x).log = s.log := rfl
@[simp] theorem State.setK_out (s : State) (x : Keyboard) : (s.setK x).out = s.out := rfl
@[simp] theorem State.setK_codec (s : State) (x : Keyboard) : (s.setK x).codec = s.codec := rfl
@[simp] theorem State.setK_agenda (s : State) (x : Keyboard) : (s.setK x).agenda = s.agenda := rfl
@[simp] theorem State.setK_t (s : State) (x : Keyboard) (p : Port) : (s.setK x).t p = s.t p := by cases p <;> rfl
@[simp] theorem State.setK_rx (s : State) (x : Keyboard) (p : Port) : (s.setK x).rx p = s.rx p := by cases p <;> rfl

/-! ## `State.setM` -/

@[simp] theorem State.setM_cfg (s : State) (x : Mouse) : (s.setM x).cfg = s.cfg := rfl
@[simp] theorem State.setM_now (s : State) (x : Mouse) : (s.setM x).now = s.now := rfl
@[simp] theorem State.setM_t0 (s : State) (x : Mouse) : (s.setM x).t0 = s.t0 := rfl
@[simp] theorem State.setM_t1 (s : State) (x : Mouse) : (s.setM x).t1 = s.t1 := rfl
@[simp] theorem State.setM_rx0 (s : State) (x : Mouse) : (s.setM x).rx0 = s.rx0 := rfl
@[simp] theorem State.setM_rx1 (s : State) (x : Mouse) : (s.setM x).rx1 = s.rx1 := rfl
@[simp] theorem State.setM_k (s : State) (x : Mouse) : (s.setM x).k = s.k := rfl
@[simp] theorem State.setM_m (s : State) (x : Mouse) : (s.setM x).m = x := rfl
@[simp] theorem State.setM_dev (s : State) (x : Mouse) : (s.setM x).dev = s.dev := rfl
@[simp] theorem State.setM_parser (s : State) (x : Mouse) : (s.setM x).parser = s.parser := rfl
@[simp] theorem State.setM_log (s : State) (x : Mouse) : (s.setM x).log = s.log := rfl
@[simp] theorem State.setM_out (s : State) (x : Mouse) : (s.setM x).out = s.out := rfl
@[simp] theorem State.setM_codec (s : State) (x : Mouse) : (s.setM x).codec = s.codec := rfl
@[simp] theorem State.setM_agenda (s : State) (x : Mouse) : (s.setM x).agenda = s.agenda := rfl
@[simp] theorem State.setM_t (s : State) (x : Mouse) (p : Port) : (s.setM x).t p = s.t p := by cases p <;> rfl
@[simp] theorem State.setM_rx (s : State) (x : Mouse) (p : Port) : (s.setM x).rx p = s.rx p := by cases p <;> rfl

/-! ## `State.setDev` -/

@[simp] theorem State.setDev_cfg (s : State) (x : List HidInstance) : (s.setDev x).cfg = s.cfg := rfl
@[simp] theorem State.setDev_now (s : State) (x : List HidInstance) : (s.setDev x).now = s.now := rfl
@[simp] theorem State.setDev_t0 (s : State) (x : List HidInstance) : (s.setDev x).t0 = s.t0 := rfl
@[simp] theorem State.setDev_t1 (s : State) (x : List HidInstance) : (s.setDev x).t1 = s.t1 := rfl
@[simp] theorem State.setDev_rx0 (s : State) (x : List HidInstance) : (s.setDev x).rx0 = s.rx0 := rfl
@[simp] theorem State.setDev_rx1 (s : State) (x : List HidInstance) : (s.setDev x).rx1 = s.rx1 := rfl
@[simp] theorem State.setDev_k (s : State) (x : List HidInstance) : (s.setDev x).k = s.k := rfl
@[simp] theorem State.setDev_m (s : State) (x : List HidInstance) : (s.setDev x).m = s.m := rfl
@[simp] theorem State.setDev_dev (s : State) (x : List HidInstance) : (s.setDev x).dev = x := rfl
@[simp] theorem State.setDev_parser (s : State) (x : List HidInstance) : (s.setDev x).parser = s.parser := rfl
@[simp] theorem State.setDev_log (s : State) (x : List HidInstance) : (s.setDev x).log = s.log := rfl
@[simp] theorem State.setDev_out (s : State) (x : List HidInstance) : (s.setDev x).out = s.out := rfl
@[simp] theorem State.setDev_codec (s : State) (x : List HidInstance) : (s.setDev x).codec = s.codec := rfl
@[simp] theorem State.setDev_agenda (s : State) (x : List HidInstance) : (s.setDev x).agenda = s.agenda := rfl
@[simp] theorem State.setDev_t (s : State) (x : List HidInstance) (p : Port) : (s.setDev x).t p = s.t p := by cases p <;> rfl
@[simp] theorem State.setDev_rx (s : State) (x : List HidInstance) (p : Port) : (s.setDev x).rx p = s.rx p := by cases p <;> rfl

/-! ## `State.setParser` -/

@[simp] theorem State.setParser_cfg (s : State) (x : Parser) : (s.setParser x).cfg = s.cfg := rfl
@[simp] theorem State.setParser_now (s : State) (x : Parser) : (s.setParser x).now = s.now := rfl
@[simp] theorem State.setParser_t0 (s : State) (x : Parser) : (s.setParser x).t0 = s.t0 := rfl
@[simp] theorem State.setParser_t1 (s : State) (x : Parser) : (s.setParser x).t1 = s.t1 := rfl
@[simp] theorem State.setParser_rx0 (s : State) (x : Parser) : (s.setParser x).rx0 = s.rx0 := rfl
@[simp] theorem State.setParser_rx1 (s : State) (x : Parser) : (s.setParser x).rx1 = s.rx1 := rfl
@[simp] theorem State.setParser_k (s : State) (x : Parser) : (s.setParser x).k = s.k := rfl
@[simp] theorem State.setParser_m (s : State) (x : Parser) : (s.setParser x).m = s.m := rfl
@[simp] theorem State.setParser_dev (s : State) (x : Parser) : (s.setParser x).dev = s.dev := rfl
@[simp] theorem State.setParser_parser (s : State) (x : Parser) : (s.setParser x).parser = x := rfl
@[simp] theorem State.setParser_log (s : State) (x : Parser) : (s.setParser x).log = s.log := rfl
@[simp] theorem State.setParser_out (s : State) (x : Parser) : (s.setParser x).out = s.out := rfl
@[simp] theorem State.setParser_codec (s : State) (x : Parser) : (s.setParser x).codec = s.codec := rfl
@[simp] theorem State.setParser_agenda (s : State) (x : Parser) : (s.setParser x).agenda = s.agenda := rfl
@[simp] theorem State.setParser_t (s : State) (x : Parser) (p : Port) : (s.setParser x).t p = s.t p := by cases p <;> rfl
@[simp] theorem State.setParser_rx (s : State) (x : Parser) (p : Port) : (s.setParser x).rx p = s.rx p := by cases p <;> rfl

/-! ## `State.setCodec` -/

@[simp] theorem State.setCodec_cfg (s : State) (x : Option CodecResult) : (s.setCodec x).cfg = s.cfg := rfl
@[simp] theorem State.setCodec_now (s : State) (x : Option CodecResult) : (s.setCodec x).now = s.now := rfl
@[simp] theorem State.setCodec_t0 (s : State) (x : Option CodecResult) : (s.setCodec x).t0 = s.t0 := rfl
@[simp] theorem State.setCodec_t1 (s : State) (x : Option CodecResult) : (s.setCodec x).t1 = s.t1 := rfl
@[simp] theorem State.setCodec_rx0 (s : State) (x : Option CodecResult) : (s.setCodec x).rx0 = s.rx0 := rfl
@[simp] theorem State.setCodec_rx1 (s : State) (x : Option CodecResult) : (s.setCodec x).rx1 = s.rx1 := rfl
@[simp] theorem State.setCodec_k (s : State) (x : Option CodecResult) : (s.setCodec x).k = s.k := rfl
@[simp] theorem State.setCodec_m (s : State) (x : Option CodecResult) : (s.setCodec x).m = s.m := rfl
@[simp] theorem State.setCodec_dev (s : State) (x : Option CodecResult) : (s.setCodec x).dev = s.dev := rfl
@[simp] theorem State.setCodec_parser (s : State) (x : Option CodecResult) : (s.setCodec x).parser = s.parser := rfl
@[simp] theorem State.setCodec_log (s : State) (x : Option CodecResult) : (s.setCodec x).log = s.log := rfl
@[simp] theorem State.setCodec_out (s : State) (x : Option CodecResult) : (s.setCodec x).out = s.out := rfl
@[simp] theorem State.setCodec_codec (s : State) (x : Option CodecResult) : (s.setCodec x).codec = x := rfl
@[simp] theorem State.setCodec_agenda (s : State) (x : Option CodecResult) : (s.setCodec x).agenda = s.agenda := rfl
@[simp] theorem State.setCodec_t (s : State) (x : Option CodecResult) (p : Port) : (s.setCodec x).t p = s.t p := by cases p <;> rfl
@[simp] theorem State.setCodec_rx (s : State) (x : Option CodecResult) (p : Port) : (s.setCodec x).rx p = s.rx p := by cases p <;> rfl

/-! ## `State.setAgenda` -/

@[simp] theorem State.setAgenda_cfg (s : State) (x : List Event) : (s.setAgenda x).cfg = s.cfg := rfl
@[simp] theorem State.setAgenda_now (s : State) (x : List Event) : (s.setAgenda x).now = s.now := rfl
@[simp] theorem State.setAgenda_t0 (s : State) (x : List Event) : (s.setAgenda x).t0 = s.t0 := rfl
@[simp] theorem State.setAgenda_t1 (s : State) (x : List Event) : (s.setAgenda x).t1 = s.t1 := rfl
@[simp] theorem State.setAgenda_rx0 (s : State) (x : List Event) : (s.setAgenda x).rx0 = s.rx0 := rfl
@[simp] theorem State.setAgenda_rx1 (s : State) (x : List Event) : (s.setAgenda x).rx1 = s.rx1 := rfl
@[simp] theorem State.setAgenda_k (s : State) (x : List Event) : (s.setAgenda x).k = s.k := rfl
@[simp] theorem State.setAgenda_m (s : State) (x : List Event) : (s.setAgenda x).m = s.m := rfl
@[simp] theorem State.setAgenda_dev (s : State) (x : List Event) : (s.setAgenda x).dev = s.dev := rfl
@[simp] theorem State.setAgenda_parser (s : State) (x : List Event) : (s.setAgenda x).parser = s.parser := rfl
@[simp] theorem State.setAgenda_log (s : State) (x : List Event) : (s.setAgenda x).log = s.log := rfl
@[simp] theorem State.setAgenda_out (s : State) (x : List Event) : (s.setAgenda x).out = s.out := rfl
@[simp] theorem State.setAgenda_codec (s : State) (x : List Event) : (s.setAgenda x).codec = s.codec := rfl
@[simp] theorem State.setAgenda_agenda (s : State) (x : List Event) : (s.setAgenda x).agenda = x := rfl
@[simp] theorem State.setAgenda_t (s : State) (x : List Event) (p : Port) : (s.setAgenda x).t p = s.t p := by cases p <;> rfl
@[simp] theorem State.setAgenda_rx (s : State) (x : List Event) (p : Port) : (s.setAgenda x).rx p = s.rx p := by cases p <;> rfl

/-! ## `State.setNow` -/

@[simp] theorem State.setNow_cfg (s : State) (x : Nat) : (s.setNow x).cfg = s.cfg := rfl
@[simp] theorem State.setNow_now (s : State) (x : Nat) : (s.setNow x).now = x := rfl
@[simp] theorem State.setNow_t0 (s : State) (x : Nat) : (s.setNow x).t0 = s.t0 := rfl
@[simp] theorem State.setNow_t1 (s : State) (x : Nat) : (s.setNow x).t1 = s.t1 := rfl
@[simp] theorem State.setNow_rx0 (s : State) (x : Nat) : (s.setNow x).rx0 = s.rx0 := rfl
@[simp] theorem State.setNow_rx1 (s : State) (x : Nat) : (s.setNow x).rx1 = s.rx1 := rfl
@[simp] theorem State.setNow_k (s : State) (x : Nat) : (s.setNow x).k = s.k := rfl
@[simp] theorem State.setNow_m (s : State) (x : Nat) : (s.setNow x).m = s.m := rfl
@[simp] theorem State.setNow_dev (s : State) (x : Nat) : (s.setNow x).dev = s.dev := rfl
@[simp] theorem State.setNow_parser (s : State) (x : Nat) : (s.setNow x).parser = s.parser := rfl
@[simp] theorem State.setNow_log (s : State) (x : Nat) : (s.setNow x).log = s.log := rfl
@[simp] theorem State.setNow_out (s : State) (x : Nat) : (s.setNow x).out = s.out := rfl
@[simp] theorem State.setNow_codec (s : State) (x : Nat) : (s.setNow x).codec = s.codec := rfl
@[simp] theorem State.setNow_agenda (s : State) (x : Nat) : (s.setNow x).agenda = s.agenda := rfl
@[simp] theorem State.setNow_t (s : State) (x : Nat) (p : Port) : (s.setNow x).t p = s.t p := by cases p <;> rfl
@[simp] theorem State.setNow_rx (s : State) (x : Nat) (p : Port) : (s.setNow x).rx p = s.rx p := by cases p <;> rfl

/-! ## `State.raise` -/

@[simp] theorem State.raise_cfg (s : State) (x : Condition) : (s.raise x).cfg = s.cfg := rfl
@[simp] theorem State.raise_now (s : State) (x : Condition) : (s.raise x).now = s.now := rfl
@[simp] theorem State.raise_t0 (s : State) (x : Condition) : (s.raise x).t0 = s.t0 := rfl
@[simp] theorem State.raise_t1 (s : State) (x : Condition) : (s.raise x).t1 = s.t1 := rfl
@[simp] theorem State.raise_rx0 (s : State) (x : Condition) : (s.raise x).rx0 = s.rx0 := rfl
@[simp] theorem State.raise_rx1 (s : State) (x : Condition) : (s.raise x).rx1 = s.rx1 := rfl
@[simp] theorem State.raise_k (s : State) (x : Condition) : (s.raise x).k = s.k := rfl
@[simp] theorem State.raise_m (s : State) (x : Condition) : (s.raise x).m = s.m := rfl
@[simp] theorem State.raise_dev (s : State) (x : Condition) : (s.raise x).dev = s.dev := rfl
@[simp] theorem State.raise_parser (s : State) (x : Condition) : (s.raise x).parser = s.parser := rfl
@[simp] theorem State.raise_log (s : State) (x : Condition) : (s.raise x).log = s.log ++ [⟨x, s.now⟩] := rfl
@[simp] theorem State.raise_out (s : State) (x : Condition) : (s.raise x).out = s.out := rfl
@[simp] theorem State.raise_codec (s : State) (x : Condition) : (s.raise x).codec = s.codec := rfl
@[simp] theorem State.raise_agenda (s : State) (x : Condition) : (s.raise x).agenda = s.agenda := rfl
@[simp] theorem State.raise_t (s : State) (x : Condition) (p : Port) : (s.raise x).t p = s.t p := by cases p <;> rfl
@[simp] theorem State.raise_rx (s : State) (x : Condition) (p : Port) : (s.raise x).rx p = s.rx p := by cases p <;> rfl

/-! ## `State.emit` -/

@[simp] theorem State.emit_cfg (s : State) (x : Output) : (s.emit x).cfg = s.cfg := rfl
@[simp] theorem State.emit_now (s : State) (x : Output) : (s.emit x).now = s.now := rfl
@[simp] theorem State.emit_t0 (s : State) (x : Output) : (s.emit x).t0 = s.t0 := rfl
@[simp] theorem State.emit_t1 (s : State) (x : Output) : (s.emit x).t1 = s.t1 := rfl
@[simp] theorem State.emit_rx0 (s : State) (x : Output) : (s.emit x).rx0 = s.rx0 := rfl
@[simp] theorem State.emit_rx1 (s : State) (x : Output) : (s.emit x).rx1 = s.rx1 := rfl
@[simp] theorem State.emit_k (s : State) (x : Output) : (s.emit x).k = s.k := rfl
@[simp] theorem State.emit_m (s : State) (x : Output) : (s.emit x).m = s.m := rfl
@[simp] theorem State.emit_dev (s : State) (x : Output) : (s.emit x).dev = s.dev := rfl
@[simp] theorem State.emit_parser (s : State) (x : Output) : (s.emit x).parser = s.parser := rfl
@[simp] theorem State.emit_log (s : State) (x : Output) : (s.emit x).log = s.log := rfl
@[simp] theorem State.emit_out (s : State) (x : Output) : (s.emit x).out = s.out ++ [x] := rfl
@[simp] theorem State.emit_codec (s : State) (x : Output) : (s.emit x).codec = s.codec := rfl
@[simp] theorem State.emit_agenda (s : State) (x : Output) : (s.emit x).agenda = s.agenda := rfl
@[simp] theorem State.emit_t (s : State) (x : Output) (p : Port) : (s.emit x).t p = s.t p := by cases p <;> rfl
@[simp] theorem State.emit_rx (s : State) (x : Output) (p : Port) : (s.emit x).rx p = s.rx p := by cases p <;> rfl

/-! ## `State.setT` -/

@[simp] theorem State.setT_cfg (s : State) (p : Port) (x : Transceiver) : (s.setT p x).cfg = s.cfg := by cases p <;> rfl
@[simp] theorem State.setT_now (s : State) (p : Port) (x : Transceiver) : (s.setT p x).now = s.now := by cases p <;> rfl
@[simp] theorem State.setT_rx0 (s : State) (p : Port) (x : Transceiver) : (s.setT p x).rx0 = s.rx0 := by cases p <;> rfl
@[simp] theorem State.setT_rx1 (s : State) (p : Port) (x : Transceiver) : (s.setT p x).rx1 = s.rx1 := by cases p <;> rfl
@[simp] theorem State.setT_k (s : State) (p : Port) (x : Transceiver) : (s.setT p x).k = s.k := by cases p <;> rfl
@[simp] theorem State.setT_m (s : State) (p : Port) (x : Transceiver) : (s.setT p x).m = s.m := by cases p <;> rfl
@[simp] theorem State.setT_dev (s : State) (p : Port) (x : Transceiver) : (s.setT p x).dev = s.dev := by cases p <;> rfl
@[simp] theorem State.setT_parser (s : State) (p : Port) (x : Transceiver) : (s.setT p x).parser = s.parser := by cases p <;> rfl
@[simp] theorem State.setT_log (s : State) (p : Port) (x : Transceiver) : (s.setT p x).log = s.log := by cases p <;> rfl
@[simp] theorem State.setT_out (s : State) (p : Port) (x : Transceiver) : (s.setT p x).out = s.out := by cases p <;> rfl
@[simp] theorem State.setT_codec (s : State) (p : Port) (x : Transceiver) : (s.setT p x).codec = s.codec := by cases p <;> rfl
@[simp] theorem State.setT_agenda (s : State) (p : Port) (x : Transceiver) : (s.setT p x).agenda = s.agenda := by cases p <;> rfl
@[simp] theorem State.setT_kbd_t0 (s : State) (x : Transceiver) : (s.setT .kbd x).t0 = x := rfl
@[simp] theorem State.setT_kbd_t1 (s : State) (x : Transceiver) : (s.setT .kbd x).t1 = s.t1 := rfl
@[simp] theorem State.setT_mouse_t1 (s : State) (x : Transceiver) : (s.setT .mouse x).t1 = x := rfl
@[simp] theorem State.setT_mouse_t0 (s : State) (x : Transceiver) : (s.setT .mouse x).t0 = s.t0 := rfl
@[simp] theorem State.setT_t_same (s : State) (p : Port) (x : Transceiver) : (s.setT p x).t p = x := by cases p <;> rfl
theorem State.setT_t_other (s : State) (p q : Port) (x : Transceiver) (h : p ≠ q) : (s.setT p x).t q = s.t q := by
  cases p <;> cases q <;> first | rfl | exact absurd rfl h
@[simp] theorem State.setT_rx (s : State) (p q : Port) (x : Transceiver) : (s.setT p x).rx q = s.rx q := by cases p <;> cases q <;> rfl
@[simp] theorem State.setT_self (s : State) (p : Port) : s.setT p (s.t p) = s := by cases p <;> rfl
@[simp] theorem State.setT_setT (s : State) (p : Port) (x y : Transceiver) : (s.setT p x).setT p y = s.setT p y := by cases p <;> rfl

/-! ## `State.setRx` -/

@[simp] theorem State.setRx_cfg (s : State) (p : Port) (x : List Frame) : (s.setRx p x).cfg = s.cfg := by cases p <;> rfl
@[simp] theorem State.setRx_now (s : State) (p : Port) (x : List Frame) : (s.setRx p x).now = s.now := by cases p <;> rfl
@[simp] theorem State.setRx_t0 (s : State) (p : Port) (x : List Frame) : (s.setRx p x).t0 = s.t0 := by cases p <;> rfl
@[simp] theorem State.setRx_t1 (s : State) (p : Port) (x : List Frame) : (s.setRx p x).t1 = s.t1 := by cases p <;> rfl
@[simp] theorem State.setRx_k (s : State) (p : Port) (x : List Frame) : (s.setRx p x).k = s.k := by cases p <;> rfl
@[simp] theorem State.setRx_m (s : State) (p : Port) (x : List Frame) : (s.setRx p x).m = s.m := by cases p <;> rfl
@[simp] theorem State.setRx_dev (s : State) (p : Port) (x : List Frame) : (s.setRx p x).dev = s.dev := by cases p <;> rfl
@[simp] theorem State.setRx_parser (s : State) (p : Port) (x : List Frame) : (s.setRx p x).parser = s.parser := by cases p <;> rfl
@[simp] theorem State.setRx_log (s : State) (p : Port) (x : List Frame) : (s.setRx p x).log = s.log := by cases p <;> rfl
@[simp] theorem State.setRx_out (s : State) (p : Port) (x : List Frame) : (s.setRx p x).out = s.out := by cases p <;> rfl
@[simp] theorem State.setRx_codec (s : State) (p : Port) (x : List Frame) : (s.setRx p x).codec = s.codec := by cases p <;> rfl
@[simp] theorem State.setRx_agenda (s : State) (p : Port) (x : List Frame) : (s.setRx p x).agenda = s.agenda := by cases p <;> rfl
@[simp] theorem State.setRx_kbd_rx0 (s : State) (x : List Frame) : (s.setRx .kbd x).rx0 = x := rfl
@[simp] theorem State.setRx_kbd_rx1 (s : State) (x : List Frame) : (s.setRx .kbd x).rx1 = s.rx1 := rfl
@[simp] theorem State.setRx_mouse_rx1 (s : State) (x : List Frame) : (s.setRx .mouse x).rx1 = x := rfl
@[simp] theorem State.setRx_mouse_rx0 (s : State) (x : List Frame) : (s.setRx .mouse x).rx0 = s.rx0 := rfl
@[simp] theorem State.setRx_rx_same (s : State) (p : Port) (x : List Frame) : (s.setRx p x).rx p = x := by cases p <;> rfl
theorem State.setRx_rx_other (s : State) (p q : Port) (x : List Frame) (h : p ≠ q) : (s.setRx p x).rx q = s.rx q := by
  cases p <;> cases q <;> first | rfl | exact absurd rfl h
@[simp] theorem State.setRx_t (s : State) (p q : Port) (x : List Frame) : (s.setRx p x).t q = s.t q := by cases p <;> cases q <;> rfl
@[simp] theorem State.setRx_self (s : State) (p : Port) : s.setRx p (s.rx p) = s := by cases p <;> rfl
@[simp] theorem State.setRx_setRx (s : State) (p : Port) (x y : List Frame) : (s.setRx p x).setRx p y = s.setRx p y := by cases p <;> rfl

/-! ## Accessors at a port -/

@[simp] theorem State.t_kbd (s : State) : s.t .kbd = s.t0 := rfl
@[simp] theorem State.t_mouse (s : State) : s.t .mouse = s.t1 := rfl
@[simp] theorem State.rx_kbd (s : State) : s.rx .kbd = s.rx0 := rfl
@[simp] theorem State.rx_mouse (s : State) : s.rx .mouse = s.rx1 := rfl

end Sys2Proof.Machine
end

