-- ==== Sys2Proof/Laws/Ops.lean ====
section
/-! SUPPORT. One lemma per shared operation that says what it can do, for the proofs to cite instead of
unfolding the operation. -/

namespace Sys2Proof.Machine

/-! ## Outputs and the log -/

theorem State.sendByte_eq (s : State) (p : Port) (b : Byte) :
    s.sendByte p b = { s with out := s.out ++ [.phyTx p (encodeFrame b)] } := rfl

theorem State.raise_eq (s : State) (c : Condition) :
    s.raise c = { s with log := s.log ++ [⟨c, s.now⟩] } := rfl

@[simp] theorem State.withoutLog_raise (s : State) (c : Condition) :
    (s.raise c).withoutLog = s.withoutLog := rfl

/-! ## `enqueue` (R221) -/

/-- A packet of legal length into a queue with room joins the tail. -/
theorem enqueue_room (p : Port) (bytes : List Byte) (s : State) (h0 : bytes ≠ [])
    (h8 : bytes.length ≤ packetMax) (hq : (s.t p).queue.length ≠ s.cfg.queueCap) :
    enqueue p bytes s = s.setT p { s.t p with queue := (s.t p).queue ++ [bytes] } := by
  have h0 : bytes.length ≠ 0 := by simpa using h0
  rw [enqueue, if_neg (by omega), if_neg hq]

/-- A packet of legal length into a full queue is dropped and counted. -/
theorem enqueue_full (p : Port) (bytes : List Byte) (s : State) (h0 : bytes ≠ [])
    (h8 : bytes.length ≤ packetMax) (hq : (s.t p).queue.length = s.cfg.queueCap) :
    enqueue p bytes s = (s.countDrop p).raise (.queueFull p bytes) := by
  have h0 : bytes.length ≠ 0 := by simpa using h0
  rw [enqueue, if_neg (by omega), if_pos hq]

/-- A packet of illegal length is dropped and counted. -/
theorem enqueue_badLength (p : Port) (bytes : List Byte) (s : State)
    (h : bytes.length = 0 ∨ packetMax < bytes.length) :
    enqueue p bytes s = (s.countDrop p).raise (.packetLength p bytes.length) := by
  rw [enqueue, if_pos h]

/-- All that an enqueue can do: the queue of p gains the packet, or one drop is counted and one
condition raised. -/
theorem enqueue_cases (p : Port) (bytes : List Byte) (s : State) :
    (enqueue p bytes s = s.setT p { s.t p with queue := (s.t p).queue ++ [bytes] }
      ∧ 1 ≤ bytes.length ∧ bytes.length ≤ packetMax ∧ (s.t p).queue.length ≠ s.cfg.queueCap)
    ∨ ∃ c, enqueue p bytes s = (s.countDrop p).raise c := by
  unfold enqueue
  split_ifs with h1 h2
  · exact .inr ⟨_, rfl⟩
  · exact .inr ⟨_, rfl⟩
  · exact .inl ⟨rfl, by omega, by omega, h2⟩

@[simp] theorem enqueue_cfg (p : Port) (b : List Byte) (s : State) : (enqueue p b s).cfg = s.cfg := by
  unfold enqueue State.countDrop; split_ifs <;> simp
@[simp] theorem enqueue_now (p : Port) (b : List Byte) (s : State) : (enqueue p b s).now = s.now := by
  unfold enqueue State.countDrop; split_ifs <;> simp
@[simp] theorem enqueue_k (p : Port) (b : List Byte) (s : State) : (enqueue p b s).k = s.k := by
  unfold enqueue State.countDrop; split_ifs <;> simp
@[simp] theorem enqueue_m (p : Port) (b : List Byte) (s : State) : (enqueue p b s).m = s.m := by
  unfold enqueue State.countDrop; split_ifs <;> simp
@[simp] theorem enqueue_dev (p : Port) (b : List Byte) (s : State) : (enqueue p b s).dev = s.dev := by
  unfold enqueue State.countDrop; split_ifs <;> simp
@[simp] theorem enqueue_parser (p : Port) (b : List Byte) (s : State) :
    (enqueue p b s).parser = s.parser := by
  unfold enqueue State.countDrop; split_ifs <;> simp
@[simp] theorem enqueue_out (p : Port) (b : List Byte) (s : State) : (enqueue p b s).out = s.out := by
  unfold enqueue State.countDrop; split_ifs <;> simp
@[simp] theorem enqueue_codec (p : Port) (b : List Byte) (s : State) :
    (enqueue p b s).codec = s.codec := by
  unfold enqueue State.countDrop; split_ifs <;> simp
@[simp] theorem enqueue_agenda (p : Port) (b : List Byte) (s : State) :
    (enqueue p b s).agenda = s.agenda := by
  unfold enqueue State.countDrop; split_ifs <;> simp
@[simp] theorem enqueue_rx0 (p : Port) (b : List Byte) (s : State) : (enqueue p b s).rx0 = s.rx0 := by
  unfold enqueue State.countDrop; split_ifs <;> simp
@[simp] theorem enqueue_rx1 (p : Port) (b : List Byte) (s : State) : (enqueue p b s).rx1 = s.rx1 := by
  unfold enqueue State.countDrop; split_ifs <;> simp
@[simp] theorem enqueue_kbd_t1 (b : List Byte) (s : State) : (enqueue .kbd b s).t1 = s.t1 := by
  unfold enqueue State.countDrop; split_ifs <;> simp
@[simp] theorem enqueue_mouse_t0 (b : List Byte) (s : State) : (enqueue .mouse b s).t0 = s.t0 := by
  unfold enqueue State.countDrop; split_ifs <;> simp

/-- All that an enqueue on port 0 writes. -/
theorem enqueue_kbd_frame (b : List Byte) (s : State) :
    enqueue .kbd b s = { s with t0 := (enqueue .kbd b s).t0, log := (enqueue .kbd b s).log } := by
  unfold enqueue State.countDrop; split_ifs <;> rfl

/-- All that an enqueue on port 1 writes. -/
theorem enqueue_mouse_frame (b : List Byte) (s : State) :
    enqueue .mouse b s = { s with t1 := (enqueue .mouse b s).t1, log := (enqueue .mouse b s).log } := by
  unfold enqueue State.countDrop; split_ifs <;> rfl

/-- An enqueue only appends to the log. -/
theorem enqueue_log (p : Port) (b : List Byte) (s : State) : ∃ l, (enqueue p b s).log = s.log ++ l := by
  unfold enqueue State.countDrop
  split_ifs
  · exact ⟨_, by simp; rfl⟩
  · exact ⟨_, by simp; rfl⟩
  · exact ⟨[], by simp⟩

/-- Of its own transceiver an enqueue writes `queue` and `drops` only (R33). -/
theorem enqueue_t_frame (p : Port) (b : List Byte) (s : State) :
    (enqueue p b s).t p = { s.t p with
      queue := ((enqueue p b s).t p).queue, drops := ((enqueue p b s).t p).drops } := by
  unfold enqueue State.countDrop; split_ifs <;> simp

theorem enqueue_setK (p : Port) (b : List Byte) (s : State) (k : Keyboard) :
    enqueue p b (s.setK k) = (enqueue p b s).setK k := by
  unfold enqueue State.countDrop
  simp only [State.setK_t, State.setK_cfg]
  split_ifs <;> cases p <;> rfl

theorem enqueue_setM (p : Port) (b : List Byte) (s : State) (m : Mouse) :
    enqueue p b (s.setM m) = (enqueue p b s).setM m := by
  unfold enqueue State.countDrop
  simp only [State.setM_t, State.setM_cfg]
  split_ifs <;> cases p <;> rfl

/-- Without the log, an enqueue does not depend on it. -/
theorem enqueue_withoutLog (p : Port) (b : List Byte) (s : State) :
    (enqueue p b s).withoutLog = (enqueue p b s.withoutLog).withoutLog := by
  have h : s.withoutLog.t p = s.t p := by cases p <;> rfl
  unfold enqueue State.countDrop
  rw [h, show s.withoutLog.cfg = s.cfg from rfl]
  split_ifs <;> cases p <;> rfl

/-! ## The flush and the previous host byte (R235) -/

@[simp] theorem State.flush_cfg (s : State) (p : Port) : (s.flush p).cfg = s.cfg := by simp [State.flush]
@[simp] theorem State.flush_now (s : State) (p : Port) : (s.flush p).now = s.now := by simp [State.flush]
@[simp] theorem State.flush_k (s : State) (p : Port) : (s.flush p).k = s.k := by simp [State.flush]
@[simp] theorem State.flush_m (s : State) (p : Port) : (s.flush p).m = s.m := by simp [State.flush]
@[simp] theorem State.flush_dev (s : State) (p : Port) : (s.flush p).dev = s.dev := by simp [State.flush]
@[simp] theorem State.flush_parser (s : State) (p : Port) : (s.flush p).parser = s.parser := by simp [State.flush]
@[simp] theorem State.flush_log (s : State) (p : Port) : (s.flush p).log = s.log := by simp [State.flush]
@[simp] theorem State.flush_out (s : State) (p : Port) : (s.flush p).out = s.out := by simp [State.flush]
@[simp] theorem State.flush_codec (s : State) (p : Port) : (s.flush p).codec = s.codec := by simp [State.flush]
@[simp] theorem State.flush_agenda (s : State) (p : Port) : (s.flush p).agenda = s.agenda := by simp [State.flush]
@[simp] theorem State.flush_rx0 (s : State) (p : Port) : (s.flush p).rx0 = s.rx0 := by simp [State.flush]
@[simp] theorem State.flush_rx1 (s : State) (p : Port) : (s.flush p).rx1 = s.rx1 := by simp [State.flush]
@[simp] theorem State.flush_kbd_t1 (s : State) : (s.flush .kbd).t1 = s.t1 := by simp [State.flush]
@[simp] theorem State.flush_mouse_t0 (s : State) : (s.flush .mouse).t0 = s.t0 := by simp [State.flush]
@[simp] theorem State.setLastRx_cfg (s : State) (p : Port) (b : Byte) :
    (s.setLastRx p b).cfg = s.cfg := by simp [State.setLastRx]
@[simp] theorem State.setLastRx_now (s : State) (p : Port) (b : Byte) :
    (s.setLastRx p b).now = s.now := by simp [State.setLastRx]
@[simp] theorem State.setLastRx_k (s : State) (p : Port) (b : Byte) :
    (s.setLastRx p b).k = s.k := by simp [State.setLastRx]
@[simp] theorem State.setLastRx_m (s : State) (p : Port) (b : Byte) :
    (s.setLastRx p b).m = s.m := by simp [State.setLastRx]
@[simp] theorem State.setLastRx_dev (s : State) (p : Port) (b : Byte) :
    (s.setLastRx p b).dev = s.dev := by simp [State.setLastRx]
@[simp] theorem State.setLastRx_parser (s : State) (p : Port) (b : Byte) :
    (s.setLastRx p b).parser = s.parser := by simp [State.setLastRx]
@[simp] theorem State.setLastRx_log (s : State) (p : Port) (b : Byte) :
    (s.setLastRx p b).log = s.log := by simp [State.setLastRx]
@[simp] theorem State.setLastRx_out (s : State) (p : Port) (b : Byte) :
    (s.setLastRx p b).out = s.out := by simp [State.setLastRx]
@[simp] theorem State.setLastRx_codec (s : State) (p : Port) (b : Byte) :
    (s.setLastRx p b).codec = s.codec := by simp [State.setLastRx]
@[simp] theorem State.setLastRx_agenda (s : State) (p : Port) (b : Byte) :
    (s.setLastRx p b).agenda = s.agenda := by simp [State.setLastRx]
@[simp] theorem State.setLastRx_rx0 (s : State) (p : Port) (b : Byte) :
    (s.setLastRx p b).rx0 = s.rx0 := by simp [State.setLastRx]
@[simp] theorem State.setLastRx_rx1 (s : State) (p : Port) (b : Byte) :
    (s.setLastRx p b).rx1 = s.rx1 := by simp [State.setLastRx]
@[simp] theorem State.setLastRx_kbd_t1 (s : State) (b : Byte) : (s.setLastRx .kbd b).t1 = s.t1 := by
  simp [State.setLastRx]
@[simp] theorem State.setLastRx_mouse_t0 (s : State) (b : Byte) : (s.setLastRx .mouse b).t0 = s.t0 := by
  simp [State.setLastRx]

/-- A legal packet after the flush is the only one in the queue (R243). -/
theorem enqueue_flush (p : Port) (b : List Byte) (s : State) (hc : 0 < s.cfg.queueCap) (h0 : b ≠ [])
    (h8 : b.length ≤ packetMax) :
    enqueue p b (s.flush p) = s.setT p { s.t p with queue := [b], bytesSent := 0 } := by
  have hq : ((s.flush p).t p).queue = [] := by simp [State.flush]
  rw [enqueue_room p b _ h0 h8 (by rw [hq, State.flush_cfg]; simpa using hc.ne), hq]
  simp [State.flush]

/-! ## A host byte (R235) -/

/-- A callback that only answers leaves the answer, and the byte as the previous one. -/
theorem takeHostByte_reply (p : Port) (b : Byte) (pk : List Byte) (s : State)
    (hc : 0 < s.cfg.queueCap) (h0 : pk ≠ []) (h8 : pk.length ≤ packetMax) :
    takeHostByte p b (enqueue p pk) s = s.replied p b pk := by
  rw [takeHostByte, enqueue_flush p pk s hc h0 h8]
  simp [State.setLastRx, State.replied]

/-! ## Deadlines -/

theorem insertDeadline_perm (d : Nat) (l : List Nat) : (insertDeadline d l).Perm (d :: l) := by
  induction l with
  | nil => exact .refl _
  | cons e r ih =>
    simp only [insertDeadline]
    split
    · exact .refl _
    · exact (List.Perm.cons e ih).trans (List.Perm.swap d e r)

theorem insertDeadline_sorted (d : Nat) (l : List Nat) (h : l.Pairwise (· ≤ ·)) :
    (insertDeadline d l).Pairwise (· ≤ ·) := by
  induction l with
  | nil => simp [insertDeadline]
  | cons e r ih =>
    rw [List.pairwise_cons] at h
    simp only [insertDeadline]
    split
    · rename_i hde
      refine List.pairwise_cons.2 ⟨fun x hx => ?_, List.pairwise_cons.2 h⟩
      rcases List.mem_cons.1 hx with rfl | hx
      · exact hde
      · exact le_trans hde (h.1 x hx)
    · rename_i hde
      refine List.pairwise_cons.2 ⟨fun x hx => ?_, ih h.2⟩
      rcases List.mem_cons.1 ((insertDeadline_perm d r).mem_iff.1 hx) with rfl | hx
      · omega
      · exact h.1 x hx

/-! ## The poll's first two steps (R230, R231) -/

/-- All that poll step 1 can do. -/
theorem pollRecover_cases (p : Port) (s : State) :
    (pollRecover p s = s ∧ (s.t p).failLatch = false)
    ∨ (pollRecover p s = (s.setT p { s.t p with
          bytesSent := (s.t p).bytesSent - 1, failLatch := false }).raise (.txFail p)
        ∧ (s.t p).failLatch = true) := by
  unfold pollRecover
  split_ifs with h
  · exact .inr ⟨rfl, h⟩
  · exact .inl ⟨rfl, by simpa using h⟩

/-- All that poll step 2 can do: nothing, or, when eligible, send the next byte of the
head packet or pop it. -/
theorem pollTransmit_cases (p : Port) (lineIdle : Bool) (s : State) :
    pollTransmit p lineIdle s = s
    ∨ (∃ pk q b, (s.t p).queue = pk :: q ∧ pk[(s.t p).bytesSent]? = some b
        ∧ ((s.t p).busyUntil ≤ s.now ∧ lineIdle = true) ∧ pollTransmit p lineIdle s = sendNext p b s)
    ∨ ∃ pk q, (s.t p).queue = pk :: q ∧ pk[(s.t p).bytesSent]? = none
        ∧ ((s.t p).busyUntil ≤ s.now ∧ lineIdle = true) ∧ pollTransmit p lineIdle s = popHead p s := by
  unfold pollTransmit
  split_ifs with h
  · simp only [Bool.and_eq_true, decide_eq_true_eq] at h
    split
    · exact .inl rfl
    · rename_i pk q hq
      split
      · rename_i b hb
        exact .inr (.inl ⟨pk, q, b, hq, hb, h, rfl⟩)
      · rename_i hb
        exact .inr (.inr ⟨pk, q, hq, hb, h, rfl⟩)
  · exact .inl rfl

@[simp] theorem pollRecover_cfg (p : Port) (s : State) : (pollRecover p s).cfg = s.cfg := by
  rcases pollRecover_cases p s with ⟨h, _⟩ | ⟨h, _⟩ <;> simp [h]
@[simp] theorem pollRecover_now (p : Port) (s : State) : (pollRecover p s).now = s.now := by
  rcases pollRecover_cases p s with ⟨h, _⟩ | ⟨h, _⟩ <;> simp [h]
@[simp] theorem pollRecover_k (p : Port) (s : State) : (pollRecover p s).k = s.k := by
  rcases pollRecover_cases p s with ⟨h, _⟩ | ⟨h, _⟩ <;> simp [h]
@[simp] theorem pollRecover_m (p : Port) (s : State) : (pollRecover p s).m = s.m := by
  rcases pollRecover_cases p s with ⟨h, _⟩ | ⟨h, _⟩ <;> simp [h]
@[simp] theorem pollRecover_dev (p : Port) (s : State) : (pollRecover p s).dev = s.dev := by
  rcases pollRecover_cases p s with ⟨h, _⟩ | ⟨h, _⟩ <;> simp [h]
@[simp] theorem pollRecover_parser (p : Port) (s : State) : (pollRecover p s).parser = s.parser := by
  rcases pollRecover_cases p s with ⟨h, _⟩ | ⟨h, _⟩ <;> simp [h]
@[simp] theorem pollRecover_out (p : Port) (s : State) : (pollRecover p s).out = s.out := by
  rcases pollRecover_cases p s with ⟨h, _⟩ | ⟨h, _⟩ <;> simp [h]
@[simp] theorem pollRecover_codec (p : Port) (s : State) : (pollRecover p s).codec = s.codec := by
  rcases pollRecover_cases p s with ⟨h, _⟩ | ⟨h, _⟩ <;> simp [h]
@[simp] theorem pollRecover_agenda (p : Port) (s : State) : (pollRecover p s).agenda = s.agenda := by
  rcases pollRecover_cases p s with ⟨h, _⟩ | ⟨h, _⟩ <;> simp [h]
@[simp] theorem pollRecover_rx0 (p : Port) (s : State) : (pollRecover p s).rx0 = s.rx0 := by
  rcases pollRecover_cases p s with ⟨h, _⟩ | ⟨h, _⟩ <;> simp [h]
@[simp] theorem pollRecover_rx1 (p : Port) (s : State) : (pollRecover p s).rx1 = s.rx1 := by
  rcases pollRecover_cases p s with ⟨h, _⟩ | ⟨h, _⟩ <;> simp [h]
@[simp] theorem pollRecover_kbd_t1 (s : State) : (pollRecover .kbd s).t1 = s.t1 := by
  rcases pollRecover_cases .kbd s with ⟨h, _⟩ | ⟨h, _⟩ <;> simp [h]
@[simp] theorem pollRecover_mouse_t0 (s : State) : (pollRecover .mouse s).t0 = s.t0 := by
  rcases pollRecover_cases .mouse s with ⟨h, _⟩ | ⟨h, _⟩ <;> simp [h]
@[simp] theorem pollTransmit_cfg (p : Port) (l : Bool) (s : State) : (pollTransmit p l s).cfg = s.cfg := by
  rcases pollTransmit_cases p l s with h | ⟨_, _, _, _, _, _, h⟩ | ⟨_, _, _, _, _, h⟩ <;>
    simp [h, sendNext, popHead, State.sendByte]
@[simp] theorem pollTransmit_now (p : Port) (l : Bool) (s : State) : (pollTransmit p l s).now = s.now := by
  rcases pollTransmit_cases p l s with h | ⟨_, _, _, _, _, _, h⟩ | ⟨_, _, _, _, _, h⟩ <;>
    simp [h, sendNext, popHead, State.sendByte]
@[simp] theorem pollTransmit_k (p : Port) (l : Bool) (s : State) : (pollTransmit p l s).k = s.k := by
  rcases pollTransmit_cases p l s with h | ⟨_, _, _, _, _, _, h⟩ | ⟨_, _, _, _, _, h⟩ <;>
    simp [h, sendNext, popHead, State.sendByte]
@[simp] theorem pollTransmit_m (p : Port) (l : Bool) (s : State) : (pollTransmit p l s).m = s.m := by
  rcases pollTransmit_cases p l s with h | ⟨_, _, _, _, _, _, h⟩ | ⟨_, _, _, _, _, h⟩ <;>
    simp [h, sendNext, popHead, State.sendByte]
@[simp] theorem pollTransmit_dev (p : Port) (l : Bool) (s : State) : (pollTransmit p l s).dev = s.dev := by
  rcases pollTransmit_cases p l s with h | ⟨_, _, _, _, _, _, h⟩ | ⟨_, _, _, _, _, h⟩ <;>
    simp [h, sendNext, popHead, State.sendByte]
@[simp] theorem pollTransmit_parser (p : Port) (l : Bool) (s : State) : (pollTransmit p l s).parser = s.parser := by
  rcases pollTransmit_cases p l s with h | ⟨_, _, _, _, _, _, h⟩ | ⟨_, _, _, _, _, h⟩ <;>
    simp [h, sendNext, popHead, State.sendByte]
@[simp] theorem pollTransmit_log (p : Port) (l : Bool) (s : State) : (pollTransmit p l s).log = s.log := by
  rcases pollTransmit_cases p l s with h | ⟨_, _, _, _, _, _, h⟩ | ⟨_, _, _, _, _, h⟩ <;>
    simp [h, sendNext, popHead, State.sendByte]
@[simp] theorem pollTransmit_codec (p : Port) (l : Bool) (s : State) : (pollTransmit p l s).codec = s.codec := by
  rcases pollTransmit_cases p l s with h | ⟨_, _, _, _, _, _, h⟩ | ⟨_, _, _, _, _, h⟩ <;>
    simp [h, sendNext, popHead, State.sendByte]
@[simp] theorem pollTransmit_agenda (p : Port) (l : Bool) (s : State) : (pollTransmit p l s).agenda = s.agenda := by
  rcases pollTransmit_cases p l s with h | ⟨_, _, _, _, _, _, h⟩ | ⟨_, _, _, _, _, h⟩ <;>
    simp [h, sendNext, popHead, State.sendByte]
@[simp] theorem pollTransmit_rx0 (p : Port) (l : Bool) (s : State) : (pollTransmit p l s).rx0 = s.rx0 := by
  rcases pollTransmit_cases p l s with h | ⟨_, _, _, _, _, _, h⟩ | ⟨_, _, _, _, _, h⟩ <;>
    simp [h, sendNext, popHead, State.sendByte]
@[simp] theorem pollTransmit_rx1 (p : Port) (l : Bool) (s : State) : (pollTransmit p l s).rx1 = s.rx1 := by
  rcases pollTransmit_cases p l s with h | ⟨_, _, _, _, _, _, h⟩ | ⟨_, _, _, _, _, h⟩ <;>
    simp [h, sendNext, popHead, State.sendByte]
@[simp] theorem pollTransmit_kbd_t1 (l : Bool) (s : State) : (pollTransmit .kbd l s).t1 = s.t1 := by
  rcases pollTransmit_cases .kbd l s with h | ⟨_, _, _, _, _, _, h⟩ | ⟨_, _, _, _, _, h⟩ <;>
    simp [h, sendNext, popHead, State.sendByte]
@[simp] theorem pollTransmit_mouse_t0 (l : Bool) (s : State) : (pollTransmit .mouse l s).t0 = s.t0 := by
  rcases pollTransmit_cases .mouse l s with h | ⟨_, _, _, _, _, _, h⟩ | ⟨_, _, _, _, _, h⟩ <;>
    simp [h, sendNext, popHead, State.sendByte]

end Sys2Proof.Machine
end

