-- ==== Sys2Proof/Laws/Decode.lean ====
section
/-! SUPPORT. What the decoder can answer: the case analyses that the proofs about polls and about the walk
cite instead of unfolding the decoder. -/

namespace Sys2Proof.Machine

/-! ## Received frames (R142, R143) -/

/-- A choice satisfies P when both its outcomes do. -/
theorem ite_cases {α : Type} {P : α → Prop} {c : Prop} [Decidable c] {x y : α} (hx : c → P x)
    (hy : ¬ c → P y) : P (if c then x else y) := by
  by_cases h : c
  · rw [if_pos h]; exact hx h
  · rw [if_neg h]; exact hy h

/-- All that a byte of port 0 that is no parameter can decode to. -/
theorem decodeKbdCommand_cases {P : Instr → Prop} (b : Byte) (setLeds : P .kbdSetLeds)
    (echo : P .kbdEcho) (scanSet : P .kbdScanSet) (identify : P .kbdIdentify)
    (setTypematic : P .kbdSetTypematic) (enable : P .kbdEnable) (disable : P .kbdDisable)
    (setDefaults : P .kbdSetDefaults) (reset : P .kbdReset) (other : P (.kbdOther b)) :
    P (decodeKbdCommand b) :=
  ite_cases (fun _ => setLeds) fun _ => ite_cases (fun _ => echo) fun _ =>
  ite_cases (fun _ => scanSet) fun _ => ite_cases (fun _ => identify) fun _ =>
  ite_cases (fun _ => setTypematic) fun _ => ite_cases (fun _ => enable) fun _ =>
  ite_cases (fun _ => disable) fun _ => ite_cases (fun _ => setDefaults) fun _ =>
  ite_cases (fun _ => reset) fun _ => other

/-- All that a byte of port 1 that is no parameter can decode to. -/
theorem decodeMouseCommand_cases {P : Instr → Prop} (b : Byte) (status : P .mouseStatus)
    (readData : P .mouseReadData) (getId : P .mouseGetId) (setRate : P .mouseSetRate)
    (enable : P .mouseEnable) (disable : P .mouseDisable) (setDefaults : P .mouseSetDefaults)
    (reset : P .mouseReset) (other : P (.mouseOther b)) : P (decodeMouseCommand b) :=
  ite_cases (fun _ => status) fun _ => ite_cases (fun _ => readData) fun _ =>
  ite_cases (fun _ => getId) fun _ => ite_cases (fun _ => setRate) fun _ =>
  ite_cases (fun _ => enable) fun _ => ite_cases (fun _ => disable) fun _ =>
  ite_cases (fun _ => setDefaults) fun _ => ite_cases (fun _ => reset) fun _ => other

/-- All that a frame received on port 0 can decode to; the byte of an engine's instruction is never
0xFE. -/
theorem decodeWire_kbd_cases {P : Instr → Prop} (prev : Byte) (raw : Frame)
    (parity : (decodeFrame raw).2 = false → P (.hostByteParityError .kbd raw))
    (resend : P (.hostResend .kbd))
    (setLeds : P .kbdSetLeds) (echo : P .kbdEcho) (scanSet : P .kbdScanSet) (identify : P .kbdIdentify)
    (setTypematic : P .kbdSetTypematic) (enable : P .kbdEnable) (disable : P .kbdDisable)
    (setDefaults : P .kbdSetDefaults) (reset : P .kbdReset)
    (ledParam : ∀ b, b ≠ 0xFE#8 → P (.kbdLedParam b))
    (setParam : ∀ b, b ≠ 0xFE#8 → P (.kbdSetParam b))
    (typematicParam : ∀ b, b ≠ 0xFE#8 → P (.kbdTypematicParam b))
    (other : ∀ b, b ≠ 0xFE#8 → P (.kbdOther b)) :
    P (decodeWire .kbd prev raw) :=
  ite_cases (fun _ => ite_cases (fun _ => resend) fun hb =>
    ite_cases (fun _ => ledParam _ hb) fun _ => ite_cases (fun _ => setParam _ hb) fun _ =>
    ite_cases (fun _ => typematicParam _ hb) fun _ =>
    decodeKbdCommand_cases _ setLeds echo scanSet identify setTypematic enable disable setDefaults reset
      (other _ hb)) fun h => parity (by simpa using h)

/-- All that a frame received on port 1 can decode to; the byte of an engine's instruction is never
0xFE. -/
theorem decodeWire_mouse_cases {P : Instr → Prop} (prev : Byte) (raw : Frame)
    (parity : (decodeFrame raw).2 = false → P (.hostByteParityError .mouse raw))
    (resend : P (.hostResend .mouse))
    (status : P .mouseStatus) (readData : P .mouseReadData) (getId : P .mouseGetId)
    (setRate : P .mouseSetRate) (enable : P .mouseEnable) (disable : P .mouseDisable)
    (setDefaults : P .mouseSetDefaults) (reset : P .mouseReset)
    (rateParam : ∀ b, b ≠ 0xFE#8 → P (.mouseRateParam b))
    (other : ∀ b, b ≠ 0xFE#8 → P (.mouseOther b)) :
    P (decodeWire .mouse prev raw) :=
  ite_cases (fun _ => ite_cases (fun _ => resend) fun hb =>
    ite_cases (fun _ => rateParam _ hb) fun _ =>
    decodeMouseCommand_cases _ status readData getId setRate enable disable setDefaults reset
      (other _ hb)) fun h => parity (by simpa using h)

/-- The poll runs what `exec` runs. -/
theorem runHost_decodeWire (p : Port) (prev : Byte) (raw : Frame) (s : State) :
    runHost (decodeWire p prev raw) s = exec (decodeWire p prev raw) s := by
  cases p
  · exact decodeWire_kbd_cases (P := fun i => runHost i s = exec i s) prev raw
      (fun _ => rfl) rfl rfl rfl rfl rfl rfl rfl rfl rfl rfl
      (fun _ _ => rfl) (fun _ _ => rfl) (fun _ _ => rfl) (fun _ _ => rfl)
  · exact decodeWire_mouse_cases (P := fun i => runHost i s = exec i s) prev raw
      (fun _ => rfl) rfl rfl rfl rfl rfl rfl rfl rfl rfl (fun _ _ => rfl) (fun _ _ => rfl)

/-! ## The poll's first two steps and the received frames -/

@[simp] theorem pollRecover_rx (p q : Port) (s : State) : (pollRecover p s).rx q = s.rx q := by
  rcases pollRecover_cases p s with ⟨h, _⟩ | ⟨h, _⟩ <;> simp [h]

@[simp] theorem pollTransmit_rx (p q : Port) (lineIdle : Bool) (s : State) :
    (pollTransmit p lineIdle s).rx q = s.rx q := by
  rcases pollTransmit_cases p lineIdle s with h | ⟨_, _, _, _, _, _, h⟩ | ⟨_, _, _, _, _, h⟩ <;>
    simp [h, sendNext, popHead, State.sendByte]

@[simp] theorem pollRecover_lastRx (p : Port) (s : State) :
    ((pollRecover p s).t p).lastRx = (s.t p).lastRx := by
  rcases pollRecover_cases p s with ⟨h, _⟩ | ⟨h, _⟩ <;> simp [h]

@[simp] theorem pollTransmit_lastRx (p : Port) (lineIdle : Bool) (s : State) :
    ((pollTransmit p lineIdle s).t p).lastRx = (s.t p).lastRx := by
  rcases pollTransmit_cases p lineIdle s with h | ⟨_, _, _, _, _, _, h⟩ | ⟨_, _, _, _, _, h⟩ <;>
    simp [h, sendNext, popHead, State.sendByte]

/-! ## Descriptor items (R152 to R154) -/

/-- The base of a header with its size code removed, and the size code itself. -/
theorem header_parts (base : Byte) (d : ItemData) (hb : base &&& 0x03#8 = 0x00#8) :
    (base ||| d.sizeCode).toNat / 4 * 4 = base.toNat
      ∧ sizeCode (base ||| d.sizeCode) = d.sizeCode.toNat := by
  revert base
  cases d <;> simp only [ItemData.sizeCode, sizeCode] <;> decide +kernel

/-- An instruction that a descriptor carries always has a next state. -/
theorem exec_item_next (i : Instr) (s : State) (h : i.admits .descriptor = true) :
    exec i s = .next (runItem i s) := by
  cases i <;> first | rfl | exact absurd h (by decide) | exact absurd h (by simp [Instr.admits])

/-- What `decodeItem` reads is carried by a descriptor. -/
theorem decodeItem_admits (bytes rest : List Byte) (i : Instr) (h : decodeItem bytes = .ok (i, rest)) :
    i.admits .descriptor = true := by
  unfold decodeItem at h
  split at h
  · cases h
  · split at h
    · split at h
      · split at h
        · cases h; rfl
        · cases h
      · cases h
    · unfold decodeShortItem at h
      split at h
      · cases h; unfold itemOfHeader; split <;> rfl
      · cases h

/-- A short item has at least its header byte; what is left is shorter than what was read. -/
theorem decodeItem_shorter (bytes rest : List Byte) (i : Instr) (h : decodeItem bytes = .ok (i, rest)) :
    rest.length < bytes.length := by
  unfold decodeItem at h
  split at h
  · cases h
  · split at h
    · split at h
      · split at h
        · cases h; simp; omega
        · cases h
      · cases h
    · unfold decodeShortItem at h
      split at h
      · rename_i htd
        cases h
        unfold takeData at htd
        split at htd <;> cases htd <;> simp <;> omega
      · cases h

end Sys2Proof.Machine
end

