-- ==== Sys2Proof/Laws/Frames.lean ====
section
/-! SUPPORT. What the larger operations leave alone, each in one equation, and what a step can be: for the
proofs to cite instead of unfolding an engine, the parser or the step. -/

namespace Sys2Proof.Machine

/-! ## Key transitions (R350) -/

/-- x differs from s in port 0's transceiver, in `mods`, in the repeat and in the log only. -/
structure KeyStep (s x : State) : Prop where
  frame : x = { s with t0 := x.t0, k := x.k, log := x.log }
  keyboard : x.k = { s.k with
    mods := x.k.mods, repeatKey := x.k.repeatKey, repeatTimer := x.k.repeatTimer }

theorem KeyStep.refl (s : State) : KeyStep s s := ⟨rfl, rfl⟩

theorem KeyStep.trans {s x y : State} (h : KeyStep s x) (g : KeyStep x y) : KeyStep s y := by
  refine ⟨?_, ?_⟩
  · rw [g.frame, h.frame]
  · rw [g.keyboard, h.keyboard]

theorem keyStep_enqueue (b : List Byte) (s : State) : KeyStep s (enqueue .kbd b s) := by
  refine ⟨?_, ?_⟩
  · rw [enqueue_kbd_frame]
  · rw [enqueue_k]

theorem keyStep_setK (s : State) (mods key : Byte) (timer : Option Nat) :
    KeyStep s (s.setK { s.k with mods := mods, repeatKey := key, repeatTimer := timer }) := ⟨rfl, rfl⟩

/-- All that a key transition writes. -/
theorem onKeyTransition_keyStep (u : Byte) (pressed : Bool) (s : State) :
    KeyStep s (onKeyTransition u pressed s) := by
  have arm : ∀ (v : Byte) (d : Nat) (x : State), KeyStep x (armRepeat v d x) :=
    fun v d x => keyStep_setK x x.k.mods v (some d)
  have cancel : ∀ x : State, KeyStep x (cancelRepeat x) := fun x => keyStep_setK x x.k.mods 0x00#8 none
  unfold onKeyTransition
  split_ifs
  · unfold modifierTransition
    refine (keyStep_setK s (setBit s.k.mods (modIndex u) pressed) s.k.repeatKey s.k.repeatTimer).trans ?_
    generalize s.setK _ = x
    refine ite_cases (fun _ => ?_) fun _ => .refl x
    refine (keyStep_enqueue (if pressed then makeSeq x.cfg u else breakSeq x.cfg u) x).trans ?_
    generalize enqueue _ _ x = y
    exact ite_cases (fun _ => ite_cases (fun _ => arm _ _ y) fun _ =>
      ite_cases (fun _ => cancel y) fun _ => .refl y) fun _ => .refl y
  · unfold pauseTransition
    exact ite_cases (fun _ => ite_cases (fun _ => keyStep_enqueue _ s) fun _ => keyStep_enqueue _ s)
      fun _ => .refl s
  · exact ⟨rfl, rfl⟩
  · unfold keyTransition
    exact ite_cases (fun _ => ite_cases (fun _ => (keyStep_enqueue _ s).trans (arm _ _ _)) fun _ =>
      (keyStep_enqueue _ s).trans (ite_cases (fun _ => cancel _) fun _ => .refl _)) fun _ => .refl s

/-! ## Descriptor items (R260 to R287) -/

/-- All that an item writes: the interpreter and the log. -/
theorem runItem_frame (i : Instr) (s : State) :
    runItem i s = { s with parser := (runItem i s).parser, log := (runItem i s).log } := by
  have h : ∀ k d, mainData k d s = { s with parser := (mainData k d s).parser, log := (mainData k d s).log } := by
    intro k d; unfold mainData; split_ifs <;> rfl
  cases i <;> first | rfl | exact h _ _

/-- An item's effect on the interpreter depends on the interpreter alone. -/
theorem runItem_parser_congr (i : Instr) (s t : State) (h : s.parser = t.parser) :
    (runItem i s).parser = (runItem i t).parser := by
  have hm : ∀ k d, (mainData k d s).parser = (mainData k d t).parser := by
    intro k d; unfold mainData; rw [h]; split_ifs <;> rfl
  cases i <;>
    first
    | exact h
    | exact hm _ _
    | (simp only [runItem, hidCollection, hidEndCollection, hidUsagePage, hidLogicalMin, hidLogicalMax,
        hidReportSize, hidReportId, hidReportCount, hidUsage, hidUsageMin, hidUsageMax, hidMainReserved00,
        hidMainReserved10, hidMainReserved20, hidMainReserved30, hidMainReserved40, hidMainReserved50,
        hidMainReserved60, hidMainReserved70, hidMainReservedD0, hidMainReservedE0, hidMainReservedF0,
        State.setParser, h])

/-! ## Steps -/

/-- The instruction an event runs, if it runs one. -/
def eventInstr (e : Event) : Option Instr :=
  match e with
  | .advance _ | .powerOn => none
  | .codec raw => some (.frame raw)
  | .item bytes => (fetchItem bytes).map Prod.fst
  | .usbMount addr itf proto desc => some (.usbMount addr itf proto desc)
  | .usbReport addr itf rep => some (.usbReport addr itf rep)
  | .usbUnmount addr itf => some (.usbUnmount addr itf)
  | .enqueue p bytes => some (.enqueue p bytes)
  | .poll p lineIdle => some (.poll p lineIdle)
  | .phyRx p raw => some (.phyRx p raw)
  | .phyTxFail p => some (.phyTxFail p)
  | .onKeyTransition u pressed => some (.onKeyTransition u pressed)
  | .onMovement buttons dx dy wheel => some (.onMovement buttons dx dy wheel)
  | .kbdRepeatFire => some .kbdRepeatFire
  | .kbdResetDone d => some (.kbdResetDone d)
  | .ledSync => some .ledSync
  | .mouseEmitFire => some .mouseEmitFire
  | .mouseResetDone d => some (.mouseResetDone d)

/-- All that an event can do: pass time, cycle the power, reject an item that runs past the end, run an
item and move past it, or run its instruction. -/
theorem runEvent_cases (e : Event) (s : State) :
    (∃ us, e = .advance us ∧ runEvent e s = .next (s.setNow (s.now + us)))
    ∨ (e = .powerOn ∧ runEvent e s = .next (powerCycle s))
    ∨ (∃ bytes, e = .item bytes ∧ fetchItem bytes = none ∧ runEvent e s = .next (itemTruncated s))
    ∨ (∃ bytes i n, e = .item bytes ∧ fetchItem bytes = some (i, n) ∧ i.admits .descriptor = true
        ∧ runEvent e s = .next (advancePos n (runItem i s)))
    ∨ ((∀ bytes, e ≠ .item bytes) ∧ ∃ i, eventInstr e = some i ∧ runEvent e s = exec i s) := by
  cases e with
  | advance us => exact .inl ⟨us, rfl, rfl⟩
  | powerOn => exact .inr (.inl ⟨rfl, rfl⟩)
  | item bytes =>
    rcases h : fetchItem bytes with _ | ⟨i, n⟩
    · exact .inr (.inr (.inl ⟨bytes, rfl, h, by simp [runEvent, h]⟩))
    · have ha : i.admits .descriptor = true := by
        unfold fetchItem at h
        split at h <;> cases h
        exact decodeItem_admits _ _ _ ‹_›
      refine .inr (.inr (.inr (.inl ⟨bytes, i, n, rfl, h, ha, ?_⟩)))
      simp [runEvent, h, exec_item_next i s ha, afterItem]
  | _ => exact .inr (.inr (.inr (.inr ⟨by simp, _, rfl, by simp only [runEvent, fetchCodec]⟩)))

end Sys2Proof.Machine
end

