-- ==== Sys2Proof/Laws/PerInstr.lean ====
section
/-! SUPPORT. One statement per instruction: the number of bytes of an item in a descriptor is what its
header says (R153), for every item that has an encoding. -/

open Sys2Proof.Machine

namespace Sys2Proof.Laws

/-- The length that R153 gives an item from its bytes: 3 + n for a long item, 1 + [0, 1, 2, 4] by the
size code for a short one. -/
def itemLength (h : Byte) (rest : List Byte) : Nat :=
  if h = 0xFE#8 then 3 + (rest.headD 0x00#8).toNat else 1 + dataLength h

/-- R153 for one instruction: encoded in a descriptor, it has the length its first bytes say. -/
def ItemLength.Statement (i : Instr) : Prop :=
  ∀ (h : Byte) (rest : List Byte), i.admits .descriptor = true → WellFormed i →
    encode i = some (h :: rest) → (h :: rest).length = itemLength h rest

/-- A short item, whatever its base and data, has the length its size code says. -/
theorem length_shortItem (base : Byte) (d : ItemData) (h : Byte) (rest : List Byte)
    (low : base &&& 0x03#8 = 0x00#8) (long : base ||| d.sizeCode ≠ 0xFE#8)
    (e : some (shortItem base d) = some (h :: rest)) : (h :: rest).length = itemLength h rest := by
  obtain ⟨rfl, rfl⟩ : base ||| d.sizeCode = h ∧ d.bytes = rest := by simpa [shortItem] using e
  rw [itemLength, if_neg long, dataLength, (header_parts base d low).2]
  cases d <;> rfl

/-- Bases of types 0 to 2 never make the header 0xFE. -/
theorem shortItem_ne_long (base : Byte) (d : ItemData) (hb : base &&& 0x0C#8 ≠ 0x0C#8) :
    base ||| d.sizeCode ≠ 0xFE#8 := by
  revert base
  cases d <;> simp only [ItemData.sizeCode] <;> decide +kernel

/-- The reserved type's headers leave the size code's bits to it. -/
theorem reserved_header_low (tag : BitVec 4) : (tag ++ 0xC#4 : Byte) &&& 0x03#8 = 0x00#8 := by
  revert tag; decide

/-- Of the reserved type's headers only tag 15 with size code 2 is 0xFE. -/
theorem reserved_header_ne_long (tag : BitVec 4) (c : Byte)
    (h : c = 0#8 ∨ c = 1#8 ∨ c = 3#8 ∨ (c = 2#8 ∧ tag ≠ 0xF#4)) :
    (tag ++ 0xC#4 : Byte) ||| c ≠ 0xFE#8 := by
  rcases h with rfl | rfl | rfl | ⟨rfl, h⟩ <;> revert tag <;> decide

theorem ItemLength.frame (raw : Frame) : ItemLength.Statement (.frame raw) :=
  fun _ _ a => absurd a (by simp [Instr.admits])

theorem ItemLength.hostResend (p : Port) : ItemLength.Statement (.hostResend p) :=
  fun _ _ a => absurd a (by simp [Instr.admits])

theorem ItemLength.hostByteParityError (p : Port) (raw : Frame) :
    ItemLength.Statement (.hostByteParityError p raw) :=
  fun _ _ a => absurd a (by simp [Instr.admits])

theorem ItemLength.kbdSetLeds : ItemLength.Statement .kbdSetLeds :=
  fun _ _ a => absurd a (by simp [Instr.admits])

theorem ItemLength.kbdEcho : ItemLength.Statement .kbdEcho :=
  fun _ _ a => absurd a (by simp [Instr.admits])

theorem ItemLength.kbdScanSet : ItemLength.Statement .kbdScanSet :=
  fun _ _ a => absurd a (by simp [Instr.admits])

theorem ItemLength.kbdIdentify : ItemLength.Statement .kbdIdentify :=
  fun _ _ a => absurd a (by simp [Instr.admits])

theorem ItemLength.kbdSetTypematic : ItemLength.Statement .kbdSetTypematic :=
  fun _ _ a => absurd a (by simp [Instr.admits])

theorem ItemLength.kbdEnable : ItemLength.Statement .kbdEnable :=
  fun _ _ a => absurd a (by simp [Instr.admits])

theorem ItemLength.kbdDisable : ItemLength.Statement .kbdDisable :=
  fun _ _ a => absurd a (by simp [Instr.admits])

theorem ItemLength.kbdSetDefaults : ItemLength.Statement .kbdSetDefaults :=
  fun _ _ a => absurd a (by simp [Instr.admits])

theorem ItemLength.kbdReset : ItemLength.Statement .kbdReset :=
  fun _ _ a => absurd a (by simp [Instr.admits])

theorem ItemLength.kbdLedParam (b : Byte) : ItemLength.Statement (.kbdLedParam b) :=
  fun _ _ a => absurd a (by simp [Instr.admits])

theorem ItemLength.kbdSetParam (b : Byte) : ItemLength.Statement (.kbdSetParam b) :=
  fun _ _ a => absurd a (by simp [Instr.admits])

theorem ItemLength.kbdTypematicParam (b : Byte) : ItemLength.Statement (.kbdTypematicParam b) :=
  fun _ _ a => absurd a (by simp [Instr.admits])

theorem ItemLength.kbdOther (b : Byte) : ItemLength.Statement (.kbdOther b) :=
  fun _ _ a => absurd a (by simp [Instr.admits])

theorem ItemLength.mouseStatus : ItemLength.Statement .mouseStatus :=
  fun _ _ a => absurd a (by simp [Instr.admits])

theorem ItemLength.mouseReadData : ItemLength.Statement .mouseReadData :=
  fun _ _ a => absurd a (by simp [Instr.admits])

theorem ItemLength.mouseGetId : ItemLength.Statement .mouseGetId :=
  fun _ _ a => absurd a (by simp [Instr.admits])

theorem ItemLength.mouseSetRate : ItemLength.Statement .mouseSetRate :=
  fun _ _ a => absurd a (by simp [Instr.admits])

theorem ItemLength.mouseEnable : ItemLength.Statement .mouseEnable :=
  fun _ _ a => absurd a (by simp [Instr.admits])

theorem ItemLength.mouseDisable : ItemLength.Statement .mouseDisable :=
  fun _ _ a => absurd a (by simp [Instr.admits])

theorem ItemLength.mouseSetDefaults : ItemLength.Statement .mouseSetDefaults :=
  fun _ _ a => absurd a (by simp [Instr.admits])

theorem ItemLength.mouseReset : ItemLength.Statement .mouseReset :=
  fun _ _ a => absurd a (by simp [Instr.admits])

theorem ItemLength.mouseRateParam (b : Byte) : ItemLength.Statement (.mouseRateParam b) :=
  fun _ _ a => absurd a (by simp [Instr.admits])

theorem ItemLength.mouseOther (b : Byte) : ItemLength.Statement (.mouseOther b) :=
  fun _ _ a => absurd a (by simp [Instr.admits])

theorem ItemLength.hidInput (d : ItemData) : ItemLength.Statement (.hidInput d) :=
  fun _ _ _ _ e =>
  length_shortItem _ d _ _ (by decide) (shortItem_ne_long _ d (by decide)) e

theorem ItemLength.hidOutput (d : ItemData) : ItemLength.Statement (.hidOutput d) :=
  fun _ _ _ _ e =>
  length_shortItem _ d _ _ (by decide) (shortItem_ne_long _ d (by decide)) e

theorem ItemLength.hidFeature (d : ItemData) : ItemLength.Statement (.hidFeature d) :=
  fun _ _ _ _ e =>
  length_shortItem _ d _ _ (by decide) (shortItem_ne_long _ d (by decide)) e

theorem ItemLength.hidCollection (d : ItemData) : ItemLength.Statement (.hidCollection d) :=
  fun _ _ _ _ e =>
  length_shortItem _ d _ _ (by decide) (shortItem_ne_long _ d (by decide)) e

theorem ItemLength.hidEndCollection (d : ItemData) :
    ItemLength.Statement (.hidEndCollection d) :=
  fun _ _ _ _ e =>
  length_shortItem _ d _ _ (by decide) (shortItem_ne_long _ d (by decide)) e

theorem ItemLength.hidUsagePage (d : ItemData) : ItemLength.Statement (.hidUsagePage d) :=
  fun _ _ _ _ e =>
  length_shortItem _ d _ _ (by decide) (shortItem_ne_long _ d (by decide)) e

theorem ItemLength.hidLogicalMin (d : ItemData) : ItemLength.Statement (.hidLogicalMin d) :=
  fun _ _ _ _ e =>
  length_shortItem _ d _ _ (by decide) (shortItem_ne_long _ d (by decide)) e

theorem ItemLength.hidLogicalMax (d : ItemData) : ItemLength.Statement (.hidLogicalMax d) :=
  fun _ _ _ _ e =>
  length_shortItem _ d _ _ (by decide) (shortItem_ne_long _ d (by decide)) e

theorem ItemLength.hidPhysicalMin (d : ItemData) : ItemLength.Statement (.hidPhysicalMin d) :=
  fun _ _ _ _ e =>
  length_shortItem _ d _ _ (by decide) (shortItem_ne_long _ d (by decide)) e

theorem ItemLength.hidPhysicalMax (d : ItemData) : ItemLength.Statement (.hidPhysicalMax d) :=
  fun _ _ _ _ e =>
  length_shortItem _ d _ _ (by decide) (shortItem_ne_long _ d (by decide)) e

theorem ItemLength.hidUnitExponent (d : ItemData) : ItemLength.Statement (.hidUnitExponent d) :=
  fun _ _ _ _ e =>
  length_shortItem _ d _ _ (by decide) (shortItem_ne_long _ d (by decide)) e

theorem ItemLength.hidUnit (d : ItemData) : ItemLength.Statement (.hidUnit d) :=
  fun _ _ _ _ e =>
  length_shortItem _ d _ _ (by decide) (shortItem_ne_long _ d (by decide)) e

theorem ItemLength.hidReportSize (d : ItemData) : ItemLength.Statement (.hidReportSize d) :=
  fun _ _ _ _ e =>
  length_shortItem _ d _ _ (by decide) (shortItem_ne_long _ d (by decide)) e

theorem ItemLength.hidReportId (d : ItemData) : ItemLength.Statement (.hidReportId d) :=
  fun _ _ _ _ e =>
  length_shortItem _ d _ _ (by decide) (shortItem_ne_long _ d (by decide)) e

theorem ItemLength.hidReportCount (d : ItemData) : ItemLength.Statement (.hidReportCount d) :=
  fun _ _ _ _ e =>
  length_shortItem _ d _ _ (by decide) (shortItem_ne_long _ d (by decide)) e

theorem ItemLength.hidPush (d : ItemData) : ItemLength.Statement (.hidPush d) :=
  fun _ _ _ _ e =>
  length_shortItem _ d _ _ (by decide) (shortItem_ne_long _ d (by decide)) e

theorem ItemLength.hidPop (d : ItemData) : ItemLength.Statement (.hidPop d) :=
  fun _ _ _ _ e =>
  length_shortItem _ d _ _ (by decide) (shortItem_ne_long _ d (by decide)) e

theorem ItemLength.hidUsage (d : ItemData) : ItemLength.Statement (.hidUsage d) :=
  fun _ _ _ _ e =>
  length_shortItem _ d _ _ (by decide) (shortItem_ne_long _ d (by decide)) e

theorem ItemLength.hidUsageMin (d : ItemData) : ItemLength.Statement (.hidUsageMin d) :=
  fun _ _ _ _ e =>
  length_shortItem _ d _ _ (by decide) (shortItem_ne_long _ d (by decide)) e

theorem ItemLength.hidUsageMax (d : ItemData) : ItemLength.Statement (.hidUsageMax d) :=
  fun _ _ _ _ e =>
  length_shortItem _ d _ _ (by decide) (shortItem_ne_long _ d (by decide)) e

theorem ItemLength.hidGlobalReservedC4 (d : ItemData) :
    ItemLength.Statement (.hidGlobalReservedC4 d) :=
  fun _ _ _ _ e =>
  length_shortItem _ d _ _ (by decide) (shortItem_ne_long _ d (by decide)) e

theorem ItemLength.hidGlobalReservedD4 (d : ItemData) :
    ItemLength.Statement (.hidGlobalReservedD4 d) :=
  fun _ _ _ _ e =>
  length_shortItem _ d _ _ (by decide) (shortItem_ne_long _ d (by decide)) e

theorem ItemLength.hidGlobalReservedE4 (d : ItemData) :
    ItemLength.Statement (.hidGlobalReservedE4 d) :=
  fun _ _ _ _ e =>
  length_shortItem _ d _ _ (by decide) (shortItem_ne_long _ d (by decide)) e

theorem ItemLength.hidGlobalReservedF4 (d : ItemData) :
    ItemLength.Statement (.hidGlobalReservedF4 d) :=
  fun _ _ _ _ e =>
  length_shortItem _ d _ _ (by decide) (shortItem_ne_long _ d (by decide)) e

theorem ItemLength.hidDesignatorIndex (d : ItemData) :
    ItemLength.Statement (.hidDesignatorIndex d) :=
  fun _ _ _ _ e =>
  length_shortItem _ d _ _ (by decide) (shortItem_ne_long _ d (by decide)) e

theorem ItemLength.hidDesignatorMin (d : ItemData) :
    ItemLength.Statement (.hidDesignatorMin d) :=
  fun _ _ _ _ e =>
  length_shortItem _ d _ _ (by decide) (shortItem_ne_long _ d (by decide)) e

theorem ItemLength.hidDesignatorMax (d : ItemData) :
    ItemLength.Statement (.hidDesignatorMax d) :=
  fun _ _ _ _ e =>
  length_shortItem _ d _ _ (by decide) (shortItem_ne_long _ d (by decide)) e

theorem ItemLength.hidStringIndex (d : ItemData) : ItemLength.Statement (.hidStringIndex d) :=
  fun _ _ _ _ e =>
  length_shortItem _ d _ _ (by decide) (shortItem_ne_long _ d (by decide)) e

theorem ItemLength.hidStringMin (d : ItemData) : ItemLength.Statement (.hidStringMin d) :=
  fun _ _ _ _ e =>
  length_shortItem _ d _ _ (by decide) (shortItem_ne_long _ d (by decide)) e

theorem ItemLength.hidStringMax (d : ItemData) : ItemLength.Statement (.hidStringMax d) :=
  fun _ _ _ _ e =>
  length_shortItem _ d _ _ (by decide) (shortItem_ne_long _ d (by decide)) e

theorem ItemLength.hidDelimiter (d : ItemData) : ItemLength.Statement (.hidDelimiter d) :=
  fun _ _ _ _ e =>
  length_shortItem _ d _ _ (by decide) (shortItem_ne_long _ d (by decide)) e

theorem ItemLength.hidLocalReserved68 (d : ItemData) :
    ItemLength.Statement (.hidLocalReserved68 d) :=
  fun _ _ _ _ e =>
  length_shortItem _ d _ _ (by decide) (shortItem_ne_long _ d (by decide)) e

theorem ItemLength.hidLocalReservedB8 (d : ItemData) :
    ItemLength.Statement (.hidLocalReservedB8 d) :=
  fun _ _ _ _ e =>
  length_shortItem _ d _ _ (by decide) (shortItem_ne_long _ d (by decide)) e

theorem ItemLength.hidLocalReservedC8 (d : ItemData) :
    ItemLength.Statement (.hidLocalReservedC8 d) :=
  fun _ _ _ _ e =>
  length_shortItem _ d _ _ (by decide) (shortItem_ne_long _ d (by decide)) e

theorem ItemLength.hidLocalReservedD8 (d : ItemData) :
    ItemLength.Statement (.hidLocalReservedD8 d) :=
  fun _ _ _ _ e =>
  length_shortItem _ d _ _ (by decide) (shortItem_ne_long _ d (by decide)) e

theorem ItemLength.hidLocalReservedE8 (d : ItemData) :
    ItemLength.Statement (.hidLocalReservedE8 d) :=
  fun _ _ _ _ e =>
  length_shortItem _ d _ _ (by decide) (shortItem_ne_long _ d (by decide)) e

theorem ItemLength.hidLocalReservedF8 (d : ItemData) :
    ItemLength.Statement (.hidLocalReservedF8 d) :=
  fun _ _ _ _ e =>
  length_shortItem _ d _ _ (by decide) (shortItem_ne_long _ d (by decide)) e

theorem ItemLength.hidMainReserved00 (d : ItemData) :
    ItemLength.Statement (.hidMainReserved00 d) :=
  fun _ _ _ _ e =>
  length_shortItem _ d _ _ (by decide) (shortItem_ne_long _ d (by decide)) e

theorem ItemLength.hidMainReserved10 (d : ItemData) :
    ItemLength.Statement (.hidMainReserved10 d) :=
  fun _ _ _ _ e =>
  length_shortItem _ d _ _ (by decide) (shortItem_ne_long _ d (by decide)) e

theorem ItemLength.hidMainReserved20 (d : ItemData) :
    ItemLength.Statement (.hidMainReserved20 d) :=
  fun _ _ _ _ e =>
  length_shortItem _ d _ _ (by decide) (shortItem_ne_long _ d (by decide)) e

theorem ItemLength.hidMainReserved30 (d : ItemData) :
    ItemLength.Statement (.hidMainReserved30 d) :=
  fun _ _ _ _ e =>
  length_shortItem _ d _ _ (by decide) (shortItem_ne_long _ d (by decide)) e

theorem ItemLength.hidMainReserved40 (d : ItemData) :
    ItemLength.Statement (.hidMainReserved40 d) :=
  fun _ _ _ _ e =>
  length_shortItem _ d _ _ (by decide) (shortItem_ne_long _ d (by decide)) e

theorem ItemLength.hidMainReserved50 (d : ItemData) :
    ItemLength.Statement (.hidMainReserved50 d) :=
  fun _ _ _ _ e =>
  length_shortItem _ d _ _ (by decide) (shortItem_ne_long _ d (by decide)) e

theorem ItemLength.hidMainReserved60 (d : ItemData) :
    ItemLength.Statement (.hidMainReserved60 d) :=
  fun _ _ _ _ e =>
  length_shortItem _ d _ _ (by decide) (shortItem_ne_long _ d (by decide)) e

theorem ItemLength.hidMainReserved70 (d : ItemData) :
    ItemLength.Statement (.hidMainReserved70 d) :=
  fun _ _ _ _ e =>
  length_shortItem _ d _ _ (by decide) (shortItem_ne_long _ d (by decide)) e

theorem ItemLength.hidMainReservedD0 (d : ItemData) :
    ItemLength.Statement (.hidMainReservedD0 d) :=
  fun _ _ _ _ e =>
  length_shortItem _ d _ _ (by decide) (shortItem_ne_long _ d (by decide)) e

theorem ItemLength.hidMainReservedE0 (d : ItemData) :
    ItemLength.Statement (.hidMainReservedE0 d) :=
  fun _ _ _ _ e =>
  length_shortItem _ d _ _ (by decide) (shortItem_ne_long _ d (by decide)) e

theorem ItemLength.hidMainReservedF0 (d : ItemData) :
    ItemLength.Statement (.hidMainReservedF0 d) :=
  fun _ _ _ _ e =>
  length_shortItem _ d _ _ (by decide) (shortItem_ne_long _ d (by decide)) e

theorem ItemLength.hidLongItem (tag : Byte) (data : List Byte) :
    ItemLength.Statement (.hidLongItem tag data) := by
  intro h rest _ wf e
  have hl : data.length ≤ 255 := by simpa [WellFormed, Instr.wellFormed] using wf
  obtain ⟨rfl, rfl⟩ : 0xFE#8 = h ∧ BitVec.ofNat 8 data.length :: tag :: data = rest := by
    simpa [encode] using e
  simp [itemLength, Nat.mod_eq_of_lt (show data.length < 256 by omega)]
  omega

theorem ItemLength.hidReservedType3 (tag : BitVec 4) (d : ItemData) :
    ItemLength.Statement (.hidReservedType3 tag d) := by
  intro h rest _ wf e
  refine length_shortItem _ d h rest (reserved_header_low tag) ?_ e
  cases d with
  | none => exact reserved_header_ne_long tag _ (.inl rfl)
  | b1 v => exact reserved_header_ne_long tag _ (.inr (.inl rfl))
  | b2 v => exact reserved_header_ne_long tag _ (.inr (.inr (.inr ⟨rfl, by simpa [WellFormed, Instr.wellFormed] using wf⟩)))
  | b4 v => exact reserved_header_ne_long tag _ (.inr (.inr (.inl rfl)))

theorem ItemLength.usbMount (addr itf itfProtocol : Byte) (desc : List Byte) :
    ItemLength.Statement (.usbMount addr itf itfProtocol desc) :=
  fun _ _ a => absurd a (by simp [Instr.admits])

theorem ItemLength.usbReport (addr itf : Byte) (rep : List Byte) :
    ItemLength.Statement (.usbReport addr itf rep) :=
  fun _ _ a => absurd a (by simp [Instr.admits])

theorem ItemLength.usbUnmount (addr itf : Byte) : ItemLength.Statement (.usbUnmount addr itf) :=
  fun _ _ a => absurd a (by simp [Instr.admits])

theorem ItemLength.enqueue (p : Port) (bytes : List Byte) :
    ItemLength.Statement (.enqueue p bytes) :=
  fun _ _ a => absurd a (by simp [Instr.admits])

theorem ItemLength.poll (p : Port) (lineIdle : Bool) : ItemLength.Statement (.poll p lineIdle) :=
  fun _ _ a => absurd a (by simp [Instr.admits])

theorem ItemLength.phyRx (p : Port) (raw : Frame) : ItemLength.Statement (.phyRx p raw) :=
  fun _ _ a => absurd a (by simp [Instr.admits])

theorem ItemLength.phyTxFail (p : Port) : ItemLength.Statement (.phyTxFail p) :=
  fun _ _ a => absurd a (by simp [Instr.admits])

theorem ItemLength.onKeyTransition (u : Byte) (pressed : Bool) :
    ItemLength.Statement (.onKeyTransition u pressed) :=
  fun _ _ a => absurd a (by simp [Instr.admits])

theorem ItemLength.onMovement (buttons : Byte) (dx dy wheel : Int) :
    ItemLength.Statement (.onMovement buttons dx dy wheel) :=
  fun _ _ a => absurd a (by simp [Instr.admits])

theorem ItemLength.kbdRepeatFire : ItemLength.Statement .kbdRepeatFire :=
  fun _ _ a => absurd a (by simp [Instr.admits])

theorem ItemLength.kbdResetDone (deadline : Nat) :
    ItemLength.Statement (.kbdResetDone deadline) :=
  fun _ _ a => absurd a (by simp [Instr.admits])

theorem ItemLength.ledSync : ItemLength.Statement .ledSync :=
  fun _ _ a => absurd a (by simp [Instr.admits])

theorem ItemLength.mouseEmitFire : ItemLength.Statement .mouseEmitFire :=
  fun _ _ a => absurd a (by simp [Instr.admits])

theorem ItemLength.mouseResetDone (deadline : Nat) :
    ItemLength.Statement (.mouseResetDone deadline) :=
  fun _ _ a => absurd a (by simp [Instr.admits])

end Sys2Proof.Laws
end

