-- ==== Sys2Proof/Tests/Slice0.lean ====
section
/-! SUPPORT. The model's own tests. Expected values are those of 95_test_vectors.md or are computed by
hand from the rule named in the comment; words are written out from 30_encoding.md. The `test_witness_`
theorems show, for the statements with hypotheses, concrete values that meet them, at the ends of their
ranges. -/

open Sys2Proof Sys2Proof.Machine

namespace Sys2Proof.Tests

/-! ## Helpers -/

/-- The next state, if there is one. -/
def nextOf (r : StepResult) : Option State :=
  match r with
  | .next s => some s
  | .fault _ => none
  | .refused _ => none

/-- What `f` reads from the state after the instruction. -/
def after {α : Type} (i : Instr) (s : State) (f : State → α) : Option α := (nextOf (exec i s)).map f

/-- What `f` reads from the state after one step of the machine. -/
def afterStep {α : Type} (s : State) (f : State → α) : Option α := (nextOf (step s)).map f

/-- The instruction a stream's first word is, when nothing is left over. -/
def whole (src : Source) (bytes : List Byte) : Option Instr :=
  match decode src bytes with
  | .ok (i, []) => some i
  | .ok (_, _ :: _) => none
  | .error _ => none

/-- The machine after power-on. -/
def s0 : State := State.reset

/-- Port 0 in the middle of a packet: E0 of [E0 F0 6B] sent at time 0, [E0 6B] behind it. -/
def busy : State :=
  { s0 with t0 := ⟨[[0xE0#8, 0xF0#8, 0x6B#8], [0xE0#8, 0x6B#8]], 1, 0xE0#8, 0x00#8, 1000, false, 0⟩ }

/-- A state of few parts: no instance, no key table, one packet a queue. -/
def tiny : State :=
  State.powerOn { defaultParams with queueCap := 1, deviceMax := 0, sc2Table := [] }

/-- One boot keyboard in slot 3 and nothing else; the LEDs are its own. -/
def oneKeyboard : State :=
  { s0 with dev := [HidInstance.free, HidInstance.free, HidInstance.free,
      { HidInstance.free with valid := true, addr := 1#8, itf := 2#8, itfProtocol := 1#8, ledsOwned := true }] }

/-- One boot mouse in slot 0. -/
def oneMouse : State :=
  { s0 with dev := [{ HidInstance.free with
      valid := true, addr := 1#8, itf := 2#8, itfProtocol := 2#8, isMouse := true }] }

/-- Two reports, IDs 1 and 2, in slot 0. -/
def twoReports : State :=
  { s0 with dev := [{ HidInstance.free with
      valid := true, addr := 1#8, itf := 2#8
      reports := [⟨1#8, 0x01#16, 0x06#16, []⟩, ⟨2#8, 0x01#16, 0x02#16, []⟩] }] }

/-- The mouse streams at rate 100, its tick due at 10000, and it is 10000. -/
def ticking : State := { s0 with
  now := 10000, m := { Mouse.powerOn with streaming := true, emitTimer := some 10000 } }

/-- Key u repeats, its next repeat due now. -/
def repeating (u : Byte) : State := { s0 with
  now := 500000, k := { s0.k with repeatKey := u, repeatTimer := some 500000 } }

/-! ## Well-formedness: one ill-formed term for each check -/

theorem test_frame_start_bit : ¬ WellFormed (.frame 0x439#11) := by decide
theorem test_frame_stop_bit : ¬ WellFormed (.frame 0x038#11) := by decide
theorem test_parity_error_with_right_parity : ¬ WellFormed (.hostByteParityError .kbd 0x7F4#11) := by decide
theorem test_resend_is_no_parameter :
    ¬ WellFormed (.kbdLedParam 0xFE#8) ∧ ¬ WellFormed (.kbdSetParam 0xFE#8)
    ∧ ¬ WellFormed (.kbdTypematicParam 0xFE#8) ∧ ¬ WellFormed (.mouseRateParam 0xFE#8) := by decide
theorem test_command_is_not_unrecognized :
    ¬ WellFormed (.kbdOther 0xED#8) ∧ ¬ WellFormed (.mouseOther 0xE9#8)
    ∧ ¬ WellFormed (.kbdOther 0xFE#8) ∧ ¬ WellFormed (.mouseOther 0xFE#8) := by decide
theorem test_long_item_of_256_bytes : ¬ WellFormed (.hidLongItem 0x00#8 (List.replicate 256 0x00#8)) := by
  decide +kernel
theorem test_reserved_item_is_no_long_item : ¬ WellFormed (.hidReservedType3 0xF#4 (.b2 0x0000#16)) := by
  decide

/-! ## Decoding: words written out from 30_encoding.md -/

/-- R141, R142: stop, parity, data, start from the most significant bit; 1C has three 1 bits. -/
theorem test_decode_frames :
    whole .codec [0b00111000#8, 0b00000100#8] = some (.frame 0b10000111000#11)
    ∧ whole (.wire .kbd 0x00#8) [0b11011010#8, 0b00000111#8] = some .kbdSetLeds
    ∧ whole (.wire .mouse 0x00#8) [0b11111100#8, 0b00000101#8] = some (.hostResend .mouse)
    ∧ whole (.wire .kbd 0x00#8) [0b11101000#8, 0b00000111#8]
        = some (.hostByteParityError .kbd 0b11111101000#11) := by decide

/-- R143, R144. -/
theorem test_decode_keyboard_bytes :
    [0b11101101#8, 0b11101110#8, 0b11110000#8, 0b11110010#8, 0b11110011#8, 0b11110100#8, 0b11110101#8,
      0b11110110#8, 0b11111111#8, 0b11111110#8, 0b11101001#8].map (fun b => whole (.host .kbd 0x00#8) [b])
      = [.kbdSetLeds, .kbdEcho, .kbdScanSet, .kbdIdentify, .kbdSetTypematic, .kbdEnable, .kbdDisable,
      .kbdSetDefaults, .kbdReset, .hostResend .kbd, .kbdOther 0xE9#8].map some := by decide

/-- R143: after ED, F0 and F3 the byte is a parameter, whatever its value. -/
theorem test_decode_keyboard_parameters :
    whole (.host .kbd 0b11101101#8) [0b00000010#8] = some (.kbdLedParam 0x02#8)
    ∧ whole (.host .kbd 0b11110000#8) [0b00000011#8] = some (.kbdSetParam 0x03#8)
    ∧ whole (.host .kbd 0b11110011#8) [0b11111111#8] = some (.kbdTypematicParam 0xFF#8) := by decide

/-- R143, R145. -/
theorem test_decode_mouse_bytes :
    [0b11101001#8, 0b11101011#8, 0b11110010#8, 0b11110011#8, 0b11110100#8, 0b11110101#8, 0b11110110#8,
      0b11111111#8, 0b11111110#8, 0b11101000#8].map (fun b => whole (.host .mouse 0xED#8) [b])
      = [.mouseStatus, .mouseReadData, .mouseGetId, .mouseSetRate, .mouseEnable, .mouseDisable,
      .mouseSetDefaults, .mouseReset, .hostResend .mouse, .mouseOther 0xE8#8].map some
    ∧ whole (.host .mouse 0b11110011#8) [0b11110011#8] = some (.mouseRateParam 0xF3#8) := by decide

/-- R152 to R154: tag, type, size; size codes 0, 1, 2, 3 in turn. -/
theorem test_decode_main_items :
    whole .descriptor [0b10000000#8] = some (.hidInput .none)
    ∧ whole .descriptor [0b10010001#8, 0x02#8] = some (.hidOutput (.b1 0x02#8))
    ∧ whole .descriptor [0b10110010#8, 0x34#8, 0x12#8] = some (.hidFeature (.b2 0x1234#16))
    ∧ whole .descriptor [0b10100011#8, 0x78#8, 0x56#8, 0x34#8, 0x12#8] = some (.hidCollection (.b4 0x12345678#32))
    ∧ whole .descriptor [0b11000000#8] = some (.hidEndCollection .none)
    ∧ [0b00000000#8, 0b00010000#8, 0b00100000#8, 0b00110000#8, 0b01000000#8, 0b01010000#8, 0b01100000#8,
        0b01110000#8, 0b11010000#8, 0b11100000#8, 0b11110000#8].map (fun h => whole .descriptor [h])
      = [Instr.hidMainReserved00 .none, .hidMainReserved10 .none, .hidMainReserved20 .none,
        .hidMainReserved30 .none, .hidMainReserved40 .none, .hidMainReserved50 .none, .hidMainReserved60 .none,
        .hidMainReserved70 .none, .hidMainReservedD0 .none, .hidMainReservedE0 .none,
        .hidMainReservedF0 .none].map some := by decide

/-- R154: type 1. -/
theorem test_decode_global_items :
    [0b00000101#8, 0b00010101#8, 0b00100101#8, 0b00110101#8, 0b01000101#8, 0b01010101#8, 0b01100101#8,
      0b01110101#8, 0b10000101#8, 0b10010101#8, 0b10100101#8, 0b10110101#8, 0b11000101#8, 0b11010101#8,
      0b11100101#8, 0b11110101#8].map (fun h => whole .descriptor [h, 0x81#8])
    = [Instr.hidUsagePage, .hidLogicalMin, .hidLogicalMax, .hidPhysicalMin, .hidPhysicalMax,
      .hidUnitExponent, .hidUnit, .hidReportSize, .hidReportId, .hidReportCount, .hidPush, .hidPop,
      .hidGlobalReservedC4, .hidGlobalReservedD4, .hidGlobalReservedE4, .hidGlobalReservedF4].map
        (fun mk => some (mk (.b1 0x81#8))) := by decide

/-- R154: type 2. -/
theorem test_decode_local_items :
    [0b00001001#8, 0b00011001#8, 0b00101001#8, 0b00111001#8, 0b01001001#8, 0b01011001#8, 0b01111001#8,
      0b10001001#8, 0b10011001#8, 0b10101001#8, 0b01101001#8, 0b10111001#8, 0b11001001#8, 0b11011001#8,
      0b11101001#8, 0b11111001#8].map (fun h => whole .descriptor [h, 0x81#8])
    = [Instr.hidUsage, .hidUsageMin, .hidUsageMax, .hidDesignatorIndex, .hidDesignatorMin,
      .hidDesignatorMax, .hidStringIndex, .hidStringMin, .hidStringMax, .hidDelimiter, .hidLocalReserved68,
      .hidLocalReservedB8, .hidLocalReservedC8, .hidLocalReservedD8, .hidLocalReservedE8,
      .hidLocalReservedF8].map (fun mk => some (mk (.b1 0x81#8))) := by decide

/-- R153, R154: the long item of vector P5, and the reserved type 3. -/
theorem test_decode_long_and_reserved :
    whole .descriptor [0b11111110#8, 0x02#8, 0x00#8, 0xAA#8, 0xBB#8]
      = some (.hidLongItem 0x00#8 [0xAA#8, 0xBB#8])
    ∧ whole .descriptor [0b01011101#8, 0x07#8] = some (.hidReservedType3 0x5#4 (.b1 0x07#8))
    ∧ whole .descriptor [0b11111110#8, 0x02#8, 0x00#8, 0xAA#8] = none
    ∧ whole .descriptor [0b10000010#8, 0x02#8] = none := by decide

/-- The words that entry points do not have. -/
theorem test_entry_points_have_no_word :
    encode (.poll .kbd true) = none ∧ encode .ledSync = none
    ∧ encode (.usbMount 0x00#8 0x00#8 0x00#8 []) = none := by decide

/-- The host's word interface: a keyboard command, an item with two data bytes, a codec word. -/
theorem test_table_words :
    decodeTableWord 8 0xED = some .kbdSetLeds ∧ decodeTableWord 8 0xE9 = some .mouseStatus
    ∧ decodeTableWord 24 0x123426 = some (.hidLogicalMax (.b2 0x1234#16))
    ∧ decodeTableWord 11 0x438 = some (.frame 0x438#11) := by decide

/-- What `withFetchWord` places is what the next step runs. -/
theorem test_fetch_word_runs :
    afterStep (s0.withFetchWord 8 0xEE) (·.t0.queue) = some [[0xEE#8]]
    ∧ afterStep (s0.withFetchWord 16 0x0775) (·.parser.gReportSize) = some 0x07#8
    ∧ afterStep (s0.withFetchWord 11 0x438) (·.codec) = some (some ⟨0x1C#8, true, 0x438#11⟩) := by decide

/-! ## Single instructions -/

/-- 95 section 2, decode vectors; property 2. -/
theorem test_codec :
    decodeFrame 0x7F4#11 = (0xFA#8, true) ∧ decodeFrame 0x5FE#11 = (0xFF#8, false)
    ∧ decodeFrame 0x7F5#11 = (0xFA#8, true) ∧ decodeFrame 0x3F4#11 = (0xFA#8, true)
    ∧ encodeFrame 0x00#8 = 0x600#11 ∧ encodeFrame 0x1C#8 = 0x438#11
    ∧ after (.frame 0x638#11) s0 (·.codec) = some (some ⟨0x1C#8, false, 0x438#11⟩) := by decide

/-- R235, R243: each host byte flushes what was queued and leaves the reply. -/
theorem test_kbd_replies :
    [Instr.kbdSetLeds, .kbdEcho, .kbdScanSet, .kbdIdentify, .kbdSetTypematic, .kbdSetParam 0x03#8,
      .kbdOther 0x00#8].map (fun i => after i busy (fun t => (t.t0.queue, t.t0.bytesSent)))
    = [([[0xFA#8]], 0), ([[0xEE#8]], 0), ([[0xFA#8]], 0), ([[0xFA#8, 0xAB#8, 0x83#8]], 0), ([[0xFA#8]], 0),
      ([[0xFA#8]], 0), ([[0xFA#8]], 0)].map some := by decide

/-- R366 with R460: parameter 02 (Num Lock) becomes LED byte 01; R375: F3 7F is the slowest rate. -/
theorem test_kbd_parameters :
    after (.kbdLedParam 0x02#8) s0 (fun t => (t.k.ledByte, t.k.ledSyncPending)) = some (0x01#8, true)
    ∧ after (.kbdLedParam 0xFD#8) s0 (·.k.ledByte) = some 0x06#8
    ∧ after (.kbdTypematicParam 0x7F#8) s0 (fun t => (t.k.delayMs, t.k.intervalUs)) = some (1000, 500000)
    ∧ after (.kbdTypematicParam 0x80#8) s0 (fun t => (t.k.delayMs, t.k.intervalUs)) = some (250, 33333) := by
  decide

/-- R376 to R378: what each leaves of a repeat with changed timing. -/
theorem test_kbd_enable_disable_defaults :
    let s := { repeating 0x04#8 with k := { (repeating 0x04#8).k with delayMs := 250, intervalUs := 33333 } }
    [Instr.kbdEnable, .kbdDisable, .kbdSetDefaults].map
      (fun i => after i s (fun t => (t.k.enabled, t.k.repeatTimer, t.k.delayMs, t.k.intervalUs)))
    = [(true, some 500000, 250, 33333), (false, none, 500, 91743), (true, some 500000, 500, 91743)].map some := by
  decide

/-- 95 section 8: Reset with A repeating, then its completion. -/
theorem test_kbd_reset :
    after .kbdReset (repeating 0x04#8) (·.k)
      = some ⟨false, 0x00#8, 0x00#8, 500, 91743, none, 0x07#8, true, [1000000]⟩
    ∧ after (.kbdResetDone 500000) { s0 with now := 500000, k := { s0.k with
        enabled := false, resetPending := [500000, 500000] } }
        (fun t => (t.k.enabled, t.k.resetPending, t.t0.queue)) = some (true, [500000], [[0xAA#8]])
    ∧ after (.kbdResetDone 500001) { s0 with now := 500000, k := { s0.k with resetPending := [500001] } }
        (·.k.resetPending) = some [500001] := by decide

/-- 95 section 6, host commands. -/
theorem test_mouse_replies :
    [Instr.mouseStatus, .mouseReadData, .mouseGetId, .mouseSetRate].map
      (fun i => after i s0 (fun t => (t.t1.queue, t.m.wasMoving)))
    = [([[0xFA#8, 0x00#8, 0x02#8, 0x64#8]], false), ([[0xFA#8]], true), ([[0xFA#8, 0x00#8]], false),
      ([[0xFA#8]], false)].map some
    ∧ after .mouseGetId { s0 with m := { s0.m with level := .explorer } } (·.t1.queue)
      = some [[0xFA#8, 0x04#8]] := by decide

/-- Property 7 and the packed magic values: the last parameter of each sequence. -/
theorem test_mouse_rate_param :
    after (.mouseRateParam 0x50#8) { s0 with m := { s0.m with magic := 0x12C864#24 } }
      (fun t => (t.m.magic, t.m.level, t.m.rate)) = some (0xC86450#24, .intelliMouse, 0x50#8)
    ∧ after (.mouseRateParam 0x50#8) { s0 with m := { s0.m with level := .intelliMouse, magic := 0x12C8C8#24 } }
      (fun t => (t.m.magic, t.m.level)) = some (0xC8C850#24, .explorer)
    ∧ after (.mouseRateParam 0x50#8) { s0 with m := { s0.m with magic := 0x12C8C8#24 } }
      (fun t => (t.m.magic, t.m.level)) = some (0xC8C850#24, .standard)
    ∧ after (.mouseRateParam 0x00#8) s0 (fun t => (t.m.magic, t.m.rate)) = some (0x000000#24, 100#8) := by decide

/-- 95 section 6: F4; F4 F5; F3 0A F6. R426: enabling twice re-arms. -/
theorem test_mouse_streaming :
    after .mouseEnable s0 (fun t => (t.m.streaming, t.m.emitTimer)) = some (true, some 10000)
    ∧ after .mouseEnable { s0 with m := { s0.m with rate := 200#8 } } (·.m.emitTimer) = some (some 5000)
    ∧ after .mouseDisable ticking (fun t => (t.m.streaming, t.m.emitTimer)) = some (false, none)
    ∧ after .mouseSetDefaults { s0 with m := { s0.m with rate := 10#8 } } (·.m.rate) = some 100#8 := by decide

/-- 95 section 8: Mouse Reset; R428: the level is the one at the completion. R431. -/
theorem test_mouse_reset :
    after .mouseReset { ticking with m := { ticking.m with level := .explorer, accDx := 5#16, rate := 10#8 } } (·.m)
      = some { Mouse.powerOn with resetPending := [510000] }
    ∧ after (.mouseResetDone 500000) { s0 with now := 500000, m := { s0.m with
        level := .intelliMouse, resetPending := [500000] } } (fun t => (t.t1.queue, t.m.resetPending))
      = some ([[0xAA#8, 0x03#8]], [])
    ∧ after (.mouseOther 0xE6#8) { s0 with m := { s0.m with accDx := 5#16, accWheel := 1#8, buttons := 1#8 } }
        (fun t => (t.m.accDx, t.m.accWheel, t.m.buttons)) = some (0#16, 0#8, 1#8) := by decide

/-- Vectors X5, X6 and R241: the direct sends write nothing of T[p]. -/
theorem test_direct_sends :
    after (.hostResend .kbd) busy (fun t => (t.out, decide (t.t0 = busy.t0)))
      = some ([.phyTx .kbd 0x5C0#11], true)
    ∧ after (.hostByteParityError .kbd 0x604#11) busy (fun t => (t.out, decide (t.t0 = busy.t0)))
      = some ([.phyTx .kbd 0x5FC#11], true)
    ∧ after (.phyTxFail .mouse) s0 (·.t1.failLatch) = some true
    ∧ after (.phyRx .mouse 0x7F4#11) { s0 with rx1 := [0x600#11] } (·.rx1) = some [0x600#11, 0x7F4#11] := by
  decide

/-- Vector X8. -/
theorem test_enqueue :
    let full := { s0 with t0 := { s0.t0 with queue := List.replicate 8 [0x1C#8] } }
    after (.enqueue .kbd [0x1C#8]) full (fun t => (t.t0.queue.length, t.t0.drops, t.log))
      = some (8, 1, [⟨.queueFull .kbd [0x1C#8], 0⟩])
    ∧ after (.enqueue .kbd []) s0 (fun t => (t.t0.queue, t.t0.drops)) = some ([], 1)
    ∧ after (.enqueue .mouse (List.replicate 9 0x00#8)) s0 (fun t => (t.t1.queue, t.log))
      = some ([], [⟨.packetLength .mouse 9, 0⟩])
    ∧ after (.enqueue .mouse (List.replicate 8 0x00#8)) s0 (·.t1.queue) = some [List.replicate 8 0x00#8] := by
  decide

/-- Property 9: the poll sends F0, then F4 flushes both packets; with the line held nothing is sent.
Vector X2: a failed byte is sent again. -/
theorem test_poll :
    let host := { busy with now := 1000, rx0 := [0x5E8#11] }
    after (.poll .kbd true) host (fun t => (t.out, t.t0.queue, t.t0.lastRx))
      = some ([.phyTx .kbd 0x7E0#11], [[0xFA#8]], 0xF4#8)
    ∧ after (.poll .kbd false) host (fun t => (t.out, t.t0.queue)) = some ([], [[0xFA#8]])
    ∧ after (.poll .kbd true) { busy with now := 1000, t0 := { busy.t0 with failLatch := true } }
        (fun t => (t.out, t.t0.bytesSent, t.t0.busyUntil)) = some ([.phyTx .kbd 0x5C0#11], 1, 2000)
    ∧ after (.poll .kbd true) { busy with now := 1000, t0 := { busy.t0 with bytesSent := 3 } }
        (fun t => (t.out, t.t0.queue, t.t0.bytesSent)) = some ([], [[0xE0#8, 0x6B#8]], 0)
    ∧ after (.poll .kbd true) { busy with now := 999 } (fun t => (t.out, decide (t.t0 = busy.t0)))
      = some ([], true) := by decide

/-- Properties 4 and 5. -/
theorem test_key_transition :
    after (.onKeyTransition 0x04#8 true) s0 (fun t => (t.t0.queue, t.k.repeatKey, t.k.repeatTimer))
      = some ([[0x1C#8]], 0x04#8, some 500000)
    ∧ after (.onKeyTransition 0x50#8 false) (repeating 0x04#8) (fun t => (t.t0.queue, t.k.repeatKey))
      = some ([[0xE0#8, 0xF0#8, 0x6B#8]], 0x04#8)
    ∧ after (.onKeyTransition 0x04#8 false) (repeating 0x04#8) (fun t => (t.t0.queue, t.k.repeatTimer))
      = some ([[0xF0#8, 0x1C#8]], none)
    ∧ after (.onKeyTransition 0xE1#8 true) s0 (fun t => (t.t0.queue, t.k.mods, t.k.repeatKey))
      = some ([[0x12#8]], 0x02#8, 0x00#8) := by decide

/-- Property 6; R514. -/
theorem test_pause_and_unsupported :
    after (.onKeyTransition 0x48#8 true) s0 (·.t0.queue)
      = some [[0xE1#8, 0x14#8, 0x77#8, 0xE1#8, 0xF0#8, 0x14#8, 0xF0#8, 0x77#8]]
    ∧ after (.onKeyTransition 0x48#8 true) { s0 with k := { s0.k with mods := 0x10#8 } } (·.t0.queue)
      = some [[0xE0#8, 0x7E#8, 0xE0#8, 0xF0#8, 0x7E#8]]
    ∧ after (.onKeyTransition 0x48#8 false) s0 (·.t0.queue) = some []
    ∧ after (.onKeyTransition 0x68#8 true) s0 (fun t => (t.t0.queue, t.log))
      = some ([], [⟨.keyUnsupported 0x68#8, 0⟩]) := by decide

/-- R356: the next deadline counts from the deadline, not from now. -/
theorem test_repeat_fire :
    after .kbdRepeatFire { repeating 0x04#8 with now := 500123 } (fun t => (t.t0.queue, t.k.repeatTimer))
      = some ([[0x1C#8]], some 591743)
    ∧ after .kbdRepeatFire { repeating 0x04#8 with now := 499999 } (fun t => (t.t0.queue, t.k.repeatTimer))
      = some ([], some 500000) := by decide

/-- R398: only valid instances that own LEDs are told, by rising index. -/
theorem test_led_sync :
    after .ledSync { oneKeyboard with k := { s0.k with ledByte := 0x07#8, ledSyncPending := true } }
      (fun t => (t.out, t.k.ledSyncPending)) = some ([.usbLed 3 0x07#8], false)
    ∧ after .ledSync oneKeyboard (·.out) = some [] := by decide

/-- 95 section 6, accumulation: 32767 + 1 and 127 + 1 wrap. -/
theorem test_on_movement :
    after (.onMovement 0xE1#8 1 (-5) 1) { s0 with m := { s0.m with accDx := 0x7FFF#16, accWheel := 0x7F#8 } }
      (fun t => (t.m.accDx, t.m.accDy, t.m.accWheel, t.m.buttons, t.m.wasMoving))
      = some (0x8000#16, 0xFFFB#16, 0x80#8, 0x01#8, true) := by decide

/-- Property 8 and its second tick; program B's first packet; R415. -/
theorem test_emit_tick :
    after .mouseEmitFire { ticking with m := { ticking.m with buttons := 1#8, accDx := 300#16 } }
      (fun t => (t.t1.queue, t.m.accDx, t.m.emitTimer)) = some ([[0x09#8, 0xFF#8, 0x00#8]], 45#16, some 20000)
    ∧ after .mouseEmitFire { ticking with m := { ticking.m with
        level := .intelliMouse, buttons := 1#8, accDx := 298#16, accDy := 10#16, accWheel := 0xFF#8 } }
        (·.t1.queue) = some [[0x29#8, 0xFF#8, 0xF6#8, 0xFF#8]]
    ∧ after .mouseEmitFire { ticking with m := { ticking.m with accDx := 170#16, accDy := 86#16 } }
        (·.t1.queue) = some [[0x28#8, 0xAB#8, 0xAB#8]]
    ∧ after .mouseEmitFire ticking (fun t => (t.t1.queue, t.m.emitTimer)) = some ([], some 20000) := by
  decide

/-- R270 to R275: the value's low bits, and the sign of the logical limits. -/
theorem test_global_items :
    after (.hidUsagePage (.b4 0x00010009#32)) s0 (·.parser.gUsagePage) = some 0x0009#16
    ∧ after (.hidLogicalMin (.b1 0x81#8)) s0 (·.parser.gLogMin.toInt) = some (-127)
    ∧ after (.hidLogicalMax (.b2 0xFFFF#16)) s0 (·.parser.gLogMax.toInt) = some (-1)
    ∧ after (.hidReportSize (.b2 0x0108#16)) s0 (·.parser.gReportSize) = some 0x08#8
    ∧ after (.hidReportId (.b1 0x02#8)) s0 (·.parser.gReportId) = some 0x02#8
    ∧ after (.hidReportCount (.b2 0x0102#16)) s0 (·.parser.gReportCount) = some 258
    ∧ after (.hidReportCount .none) s0 (·.parser.gReportCount) = some 0 := by decide

/-- R276, R279, R263, R287: pushes, pops, delimiters and the reserved tags do nothing. -/
theorem test_inert_items :
    let q := { Parser.init with gUsagePage := 7#16, lUsages := [1#16] }
    [Instr.hidPush .none, .hidPop .none, .hidDelimiter (.b1 1#8), .hidPhysicalMin (.b1 1#8),
      .hidLongItem 0#8 [1#8], .hidReservedType3 0#4 (.b1 1#8), .hidGlobalReservedF4 .none,
      .hidLocalReserved68 .none].all (fun i => after i (s0.setParser q) (·.parser) == some q) = true
    ∧ after (.hidMainReserved20 .none) (s0.setParser q) (·.parser.lUsages) = some [] := by decide

/-- R278: 5 to 7 in either order; 5 to 1 queues nothing (vector P6). -/
theorem test_usage_ranges :
    after (.hidUsageMax (.b1 7#8)) (s0.setParser { Parser.init with lUsageMin := some 5#16 })
      (fun t => (t.parser.lUsages, t.parser.lUsageMin)) = some ([5#16, 6#16, 7#16], none)
    ∧ after (.hidUsageMin (.b1 5#8)) (s0.setParser { Parser.init with lUsageMax := some 7#16 })
      (·.parser.lUsages) = some [5#16, 6#16, 7#16]
    ∧ after (.hidUsageMax (.b1 1#8)) (s0.setParser { Parser.init with lUsageMin := some 5#16 })
      (fun t => (t.parser.lUsages, t.parser.lUsageMin)) = some ([], none)
    ∧ after (.hidUsage (.b1 9#8)) (s0.setParser { Parser.init with lUsages := [8#16] })
      (·.parser.lUsages) = some [8#16, 9#16] := by decide

/-- R284, R285. -/
theorem test_collections :
    let q := { Parser.init with gUsagePage := 1#16, gReportId := 2#8, lUsages := [6#16, 7#16], offIn := 8 }
    after (.hidCollection (.b1 1#8)) (s0.setParser q)
      (fun t => (t.parser.cur.topUsage, t.parser.depth, t.parser.lUsages)) = some (6#16, 1, [])
    ∧ after (.hidEndCollection .none) (s0.setParser { q with depth := 1 })
      (fun t => (t.parser.table, t.parser.depth, t.parser.offIn)) = some ([⟨2#8, 0#16, 0#16, []⟩], 0, 0)
    ∧ after (.hidEndCollection .none) (s0.setParser { q with depth := 2 })
      (fun t => (t.parser.table, t.parser.depth, t.parser.offIn)) = some ([], 1, 8)
    ∧ after (.hidEndCollection .none) (s0.setParser q) (fun t => (t.parser.table, t.parser.depth))
      = some ([], 0) := by decide

/-- R280 to R282: the last usage repeats; Constant only moves the offset; a full report loses fields. -/
theorem test_main_items :
    let q := { Parser.init with gReportSize := 4#8, gReportCount := 3, lUsages := [1#16, 2#16] }
    after (.hidInput (.b1 2#8)) (s0.setParser q)
      (fun t => (t.parser.cur.fields.map (fun f => (f.bitOffset.toNat, f.usage.toNat)), t.parser.offIn))
      = some ([(0, 1), (4, 2), (8, 2)], 12)
    ∧ after (.hidOutput (.b1 3#8)) (s0.setParser q) (fun t => (t.parser.cur.fields, t.parser.offOut))
      = some ([], 12)
    ∧ after (.hidFeature .none) (s0.setParser { q with gReportCount := 33, pos := 7 })
      (fun t => (t.parser.cur.fields.length, t.parser.offFeat, t.log))
      = some (32, 132, [⟨.descFieldsTruncated 7, 0⟩]) := by decide

/-- Programs A and B: a boot keyboard and a boot mouse; R331's request. Vector P5's items in one mount. -/
theorem test_mount :
    after (.usbMount 1#8 0#8 1#8 []) s0 (fun t => (t.out, t.dev.map (fun d => (d.valid, d.isMouse, d.ledsOwned))))
      = some ([.usbRequestReport 0], [(true, false, true), (false, false, false), (false, false, false),
        (false, false, false)])
    ∧ after (.usbMount 1#8 2#8 2#8 []) oneKeyboard (fun t => (t.out, t.dev.map (fun d => (d.valid, d.isMouse))))
      = some ([.usbRequestReport 3], [(false, false), (false, false), (false, false), (true, true)])
    ∧ after (.usbMount 9#8 9#8 0#8 [0xA1#8, 0x01#8, 0xC0#8]) oneKeyboard
        (fun t => t.dev.map (fun d => (d.addr, d.reports.length)))
      = some [(9#8, 1), (0#8, 0), (0#8, 0), (1#8, 0)]
    ∧ after (.usbMount 9#8 9#8 0#8 []) oneMouse (fun t => (t.out, t.log))
      = some ([], [⟨.instanceTableFull 9#8 9#8, 0⟩]) := by decide +kernel

/-- R330: the slot becomes free; an unknown key changes nothing. -/
theorem test_unmount :
    after (.usbUnmount 1#8 2#8) oneKeyboard (fun t => t.dev.map (·.valid)) = some [false, false, false, false]
    ∧ after (.usbUnmount 1#8 3#8) oneKeyboard (fun t => t.dev.map (·.valid))
      = some [false, false, false, true] := by decide

/-- Property 10's report, and R322. -/
theorem test_report :
    after (.usbReport 1#8 2#8 [0x02#8, 0x00#8, 0x04#8, 0#8, 0#8, 0#8, 0#8, 0#8]) oneKeyboard
      (fun t => (t.t0.queue, t.out)) = some ([[0x12#8], [0x1C#8]], [.usbRequestReport 3])
    ∧ after (.usbReport 1#8 2#8 [0x21#8, 0x7F#8, 0x80#8]) oneMouse
      (fun t => (t.m.buttons, t.m.accDx, t.m.accDy, t.m.accWheel)) = some (0x01#8, 0x007F#16, 0xFF80#16, 0#8)
    ∧ after (.usbReport 1#8 2#8 [0x03#8, 0x00#8]) twoReports (fun t => (t.log, t.out))
      = some ([⟨.reportUnmatched 0 (some 3#8), 0⟩], [.usbRequestReport 0])
    ∧ after (.usbReport 7#8 7#8 []) s0 (fun t => (t.log, t.out)) = some ([⟨.unknownInstance 7#8 7#8, 0⟩], []) := by
  decide +kernel

/-- The steps that are no instruction: time, power (R32, R551). -/
theorem test_time_and_power :
    afterStep { s0 with agenda := [.advance 1000] } (fun t => (t.now, t.agenda)) = some (1000, [])
    ∧ afterStep { busy with now := 7, agenda := [.powerOn] } (fun t => (t.now, t.t0.queue, t.agenda))
      = some (0, [], []) := by decide

/-! ## Witnesses: values that meet the hypotheses of each statement

Where a statement gives the whole effect under its hypotheses, the hypotheses alone are shown; the tests
above run the same instructions. -/

theorem test_witness_CodecByRule :
    (∀ i < 8, (encodeFrame 0x1C#8).getLsbD (i + 1) = (0x1C#8 : Byte).getLsbD i)
    ∧ (∀ i, 1 ≤ i → i ≤ 9 → (0x438#11 : Frame).getLsbD i = (0x039#11 : Frame).getLsbD i)
    ∧ (∀ i < 3, (0x04#8 : Byte).getLsbD i = (0xFC#8 : Byte).getLsbD i)
    ∧ (decodeFrame 0x600#11).2 = true := by
  refine ⟨by decide, ?_, by decide, by decide⟩
  intro i h1 h9
  interval_cases i <;> decide

theorem test_witness_DecodeOfEncode :
    WellFormed (.hidLongItem 0xFF#8 (List.replicate 255 0x00#8))
    ∧ (Instr.hidLongItem 0xFF#8 (List.replicate 255 0x00#8)).admits .descriptor = true
    ∧ encode (.hidLongItem 0xFF#8 (List.replicate 255 0x00#8))
      = some (0xFE#8 :: 0xFF#8 :: 0xFF#8 :: List.replicate 255 0x00#8)
    ∧ WellFormed (.hidReservedType3 0xF#4 (.b4 0xFFFFFFFF#32))
    ∧ encode (.hidReservedType3 0xF#4 (.b4 0xFFFFFFFF#32)) = some (List.replicate 5 0xFF#8)
    ∧ WellFormed (.mouseRateParam 0xFF#8) ∧ (Instr.mouseRateParam 0xFF#8).admits (.host .mouse 0xF3#8) = true
    ∧ WellFormed (.hostByteParityError .kbd 0x5FF#11)
    ∧ (Instr.hostByteParityError .kbd 0x5FF#11).admits (.wire .kbd 0x00#8) = true := by decide +kernel

theorem test_witness_EncodeOfDecode :
    whole .descriptor [0xFF#8, 0xFF#8, 0xFF#8, 0xFF#8, 0xFF#8] = some (.hidReservedType3 0xF#4 (.b4 0xFFFFFFFF#32))
    ∧ whole (.host .mouse 0xF3#8) [0xFF#8] = some (.mouseRateParam 0xFF#8) := by decide

theorem test_witness_HostByteDecodePriority :
    (0xFF#8 : Byte) ≠ 0xFE#8 ∧ (0x00#8 : Byte) ≠ 0xED#8 ∧ (0x00#8 : Byte) ≠ 0xF0#8 ∧ (0x00#8 : Byte) ≠ 0xF3#8
    ∧ (0xF1#8 : Byte) ∉ [0xFE#8, 0xED#8, 0xEE#8, 0xF0#8, 0xF2#8, 0xF3#8, 0xF4#8, 0xF5#8, 0xF6#8, 0xFF#8]
    ∧ (0xED#8 : Byte) ∉ [0xFE#8, 0xE9#8, 0xEB#8, 0xF2#8, 0xF3#8, 0xF4#8, 0xF5#8, 0xF6#8, 0xFF#8]
    ∧ (∀ i < 8, (0x7FF#11 : Frame).getLsbD (i + 1) = (0xFF#8 : Byte).getLsbD i)
    ∧ (popcount 0xFF#8 + ((0x7FF#11 : Frame).getLsbD 9).toNat) % 2 = 1
    ∧ (∀ i < 8, (0x1FE#11 : Frame).getLsbD (i + 1) = (0xFF#8 : Byte).getLsbD i)
    ∧ (popcount 0xFF#8 + ((0x1FE#11 : Frame).getLsbD 9).toNat) % 2 = 0 := by decide

theorem test_witness_ItemLengthFromHeader :
    whole .descriptor (0xFE#8 :: 0xFF#8 :: List.replicate 256 0x01#8)
      = some (.hidLongItem 0x01#8 (List.replicate 255 0x01#8))
    ∧ decodeItem [0xFE#8, 0x00#8, 0x07#8, 0x05#8] = .ok (.hidLongItem 0x07#8 [], [0x05#8])
    ∧ decodeItem [0xC0#8] = .ok (.hidEndCollection .none, []) := ⟨by decide +kernel, by rfl, by rfl⟩

theorem test_witness_StepRunsDecodedInstruction :
    s0.agenda = [] ∧ (s0.setAgenda [.poll .kbd false]).agenda = .poll .kbd false :: []
    ∧ ({ s0.setAgenda [.poll .kbd false] with rx0 := [0x600#11, 0x600#11] } : State).rx .kbd
      = 0x600#11 :: [0x600#11]
    ∧ (s0.setAgenda [.item [0xC0#8, 0x00#8], .ledSync]).agenda = .item [0xC0#8, 0x00#8] :: [.ledSync]
    ∧ decodeItem [0xC0#8, 0x00#8] = .ok (.hidEndCollection .none, [0x00#8])
    ∧ (Event.ledSync, Instr.ledSync) ∈ ([(.kbdRepeatFire, .kbdRepeatFire), (.ledSync, .ledSync),
        (.mouseEmitFire, .mouseEmitFire)] : List (Event × Instr)) :=
  ⟨rfl, rfl, rfl, rfl, rfl, by simp⟩

theorem test_witness_WalkExecutesItems :
    decodeItem [0x05#8] = .error .truncated ∧ decodeItem [0xFE#8, 0x01#8, 0x00#8] = .error .truncated
    ∧ decodeItem [0xC0#8] = .ok (.hidEndCollection .none, [])
    ∧ (walk 1 [0xC0#8] (s0.setParser { Parser.init with
        depth := 1, table := List.replicate 7 Report.empty })).parser.table.length = 8
    ∧ (walk 2 [0xC0#8, 0x00#8] (s0.setParser { Parser.init with
        depth := 1, table := List.replicate 7 Report.empty })).log = [⟨.descReportsTruncated 1, 0⟩] :=
  ⟨rfl, rfl, rfl, by decide, by decide⟩

/-- The one hypothesis `0 < queueCap`, at its least value, of KbdReplyOnlyCommands, KbdParametersByRule,
KbdEnableDisableDefaults, KbdResetByRule, MouseReplyCommands, MouseRateAndStreamingCommands (with its
rate), MouseResetByRule and FlushLeavesOnlyTheReply. -/
theorem test_witness_queueCap : 0 < tiny.cfg.queueCap ∧ tiny.cfg.queueCap = 1 ∧ s0.m.rate ≠ 0x00#8 := by decide

theorem test_witness_KbdParametersByRule :
    (7 : Fin 8).val = ((0xFF#8 : Byte) &&& 0x07#8).toNat ∧ (0 : Fin 8).val = ((0xF8#8 : Byte) &&& 0x07#8).toNat
    ∧ (31 : Fin 32).val = ((0xFF#8 : Byte) &&& 0x1F#8).toNat
    ∧ (3 : Fin 4).val = (((0xFF#8 : Byte) >>> 5) &&& 0x03#8).toNat
    ∧ (0 : Fin 4).val = (((0x80#8 : Byte) >>> 5) &&& 0x03#8).toNat := by decide

theorem test_witness_MouseRateAndStreamingCommands :
    (0xC86450#24 : BitVec 24).toNat = ((0x12C864#24 : BitVec 24).toNat * 256 + (0x50#8 : Byte).toNat) % 2 ^ 24
    ∧ (0x000000#24 : BitVec 24).toNat = ((0xFF0000#24 : BitVec 24).toNat * 256 + (0x00#8 : Byte).toNat) % 2 ^ 24
    ∧ 0 < s0.cfg.queueCap := by decide

theorem test_witness_mouseLevels :
    ∀ l : Level, (l, levelId l) ∈ [(Level.standard, 0x00#8), (Level.intelliMouse, 0x03#8), (Level.explorer, 0x04#8)] := by
  intro l; cases l <;> decide

theorem test_witness_resetCompletions :
    let s := { s0 with now := 500000, k := { s0.k with resetPending := [400000, 500000, 500001] }
                       m := { s0.m with resetPending := [500000] } }
    500000 ∈ s.m.resetPending ∧ 500000 ∈ s.k.resetPending ∧ 500000 ≤ s.now
    ∧ 500001 ∈ s.k.resetPending ∧ s.now < 500001 ∧ 7 ∉ s.k.resetPending := by decide

theorem test_witness_EnqueueByRule :
    8 < (List.replicate 9 (0x00#8 : Byte)).length ∧ (List.replicate 8 (0x00#8 : Byte)).length ≤ 8
    ∧ ({ tiny with t0 := { tiny.t0 with queue := [[0x1C#8]] } } : State).t0.queue.length = tiny.cfg.queueCap
    ∧ (tiny.t .mouse).queue.length ≠ tiny.cfg.queueCap := by decide

theorem test_witness_PollTransmitsOrRetires :
    let sent := { busy with now := 1000 }
    sent.rx .kbd = [] ∧ (sent.t .kbd).failLatch = false ∧ (sent.t .kbd).busyUntil ≤ sent.now
    ∧ (sent.t .kbd).queue = [0xE0#8, 0xF0#8, 0x6B#8] :: [[0xE0#8, 0x6B#8]]
    ∧ [0xE0#8, 0xF0#8, 0x6B#8][(sent.t .kbd).bytesSent]? = some (0xF0#8 : Byte)
    ∧ (sent.t .kbd).bytesSent = 0 + 1 ∧ [0xE0#8, 0xF0#8, 0x6B#8][0]? = some (0xE0#8 : Byte)
    ∧ ({ busy with now := 999 } : State).now < (busy.t .kbd).busyUntil
    ∧ (({ sent with t0 := { sent.t0 with failLatch := true } } : State).t .kbd).failLatch = true
    ∧ (({ sent with t0 := { sent.t0 with bytesSent := 3 } } : State).t .kbd).bytesSent
      = [0xE0#8, 0xF0#8, (0x6B#8 : Byte)].length := by decide

theorem test_witness_FlushLeavesOnlyTheReply :
    let s := { busy with now := 1000, rx0 := [0x5E8#11, 0x600#11] }
    0 < s.cfg.queueCap ∧ s.rx .kbd = 0x5E8#11 :: [0x600#11] ∧ decodeFrame 0x5E8#11 = (0xF4#8, true)
    ∧ (0xF4#8 : Byte) ≠ 0xFE#8 ∧ hostReply (decodeWire .kbd (s.t .kbd).lastRx 0x5E8#11) s = [0xFA#8] := by decide

theorem test_witness_PacketIsSentWhole :
    let pk : List Byte := [0xE0#8, 0x6B#8]
    let s := { tiny with
      t0 := { tiny.t0 with queue := [pk], busyUntil := 1000 }
      agenda := [.advance 1000, .poll .kbd true, .advance 1000, .poll .kbd true, .advance 1000, .poll .kbd true] }
    s.agenda = (List.replicate (pk.length + 1) [Event.advance s.cfg.backoffUs, .poll .kbd true]).flatten ++ []
    ∧ (s.t .kbd).queue = pk :: [] ∧ (s.t .kbd).bytesSent = 0 ∧ (s.t .kbd).failLatch = false
    ∧ s.rx .kbd = [] ∧ (s.t .kbd).busyUntil ≤ s.now + s.cfg.backoffUs := by decide

theorem test_witness_SendsKeepTheBackoff :
    let s := { busy with now := 1000, agenda := [.poll .kbd true] }
    afterStep s (fun t => ((t.t .kbd).busyUntil, t.out)) = some (2000, [.phyTx .kbd (encodeFrame 0xF0#8)])
    ∧ (s.t .kbd).busyUntil = s.now ∧ s.agenda.head? ≠ some .powerOn := by decide

theorem test_witness_PortsAreIndependent :
    after (.poll .kbd true) { busy with now := 1000 } (fun t => t.t1 == s0.t1 && t.m == s0.m) = some true
    ∧ after (.onKeyTransition 0x04#8 true) s0 (fun t => t.t1 == s0.t1) = some true
    ∧ after .mouseEmitFire { ticking with m := { ticking.m with accDx := 1#16 } } (fun t => t.t0 == s0.t0) = some true
    ∧ after (.onMovement 0x01#8 1 1 1) s0 (fun t => t.k == s0.k) = some true := by decide

theorem test_witness_KeyTransitionByRule :
    (¬ (0xE0 ≤ (0x67#8 : Byte).toNat ∧ (0x67#8 : Byte).toNat ≤ 0xE7)) ∧ (0x67#8 : Byte) ≠ 0x48#8
    ∧ s0.cfg.sc2Table.lookup 0x67#8 = some ⟨false, 0x0F#8⟩ ∧ s0.cfg.sc2Table.lookup 0x04#8 = some ⟨false, 0x1C#8⟩
    ∧ s0.k.enabled = true ∧ ({ s0.k with enabled := false } : Keyboard).enabled = false
    ∧ (repeating 0x67#8).k.repeatKey = 0x67#8 ∧ (repeating 0x67#8).k.repeatKey ≠ 0x04#8 := by decide

theorem test_witness_ModifierTransitionByRule :
    (0xE0#8 : Byte).toNat = 0xE0 + (0 : Fin 8).val ∧ (0xE7#8 : Byte).toNat = 0xE0 + (7 : Fin 8).val
    ∧ (∀ i < 8, (0x80#8 : Byte).getLsbD i = if i = (7 : Fin 8).val then true else s0.k.mods.getLsbD i)
    ∧ (∀ i < 8, (0xFE#8 : Byte).getLsbD i = if i = (0 : Fin 8).val then false else (0xFF#8 : Byte).getLsbD i) := by
  decide

theorem test_witness_PauseAndUnsupportedKeys :
    s0.k.enabled = true ∧ s0.k.mods.getLsbD 0 = false ∧ s0.k.mods.getLsbD 4 = false
    ∧ (0x01#8 : Byte).getLsbD 0 = true ∧ (0x10#8 : Byte).getLsbD 4 = true
    ∧ s0.cfg.sc2Table.lookup 0x00#8 = none ∧ s0.cfg.sc2Table.lookup 0x68#8 = none
    ∧ s0.cfg.sc2Table.lookup 0xFF#8 = none := by decide

theorem test_witness_RepeatFireByRule :
    (repeating 0x04#8).k.repeatTimer = some 500000 ∧ 500000 ≤ (repeating 0x04#8).now
    ∧ s0.cfg.sc2Table.lookup (repeating 0x04#8).k.repeatKey = some ⟨false, 0x1C#8⟩
    ∧ (repeating 0xE7#8).k.repeatKey.toNat = 0xE0 + (7 : Fin 8).val
    ∧ s0.cfg.modTable.get 7 = ⟨true, 0x27#8⟩ := by decide

theorem test_witness_LedSync :
    ({ oneKeyboard with k := { s0.k with ledSyncPending := true } } : State).k.ledSyncPending = true
    ∧ s0.k.ledSyncPending = false := by decide

theorem test_witness_TimersWaitForTheirDeadline :
    (∀ d, s0.k.repeatTimer = some d → s0.now < d)
    ∧ (∀ d, ({ ticking with now := 9999 } : State).m.emitTimer = some d → 9999 < d) := by
  refine ⟨fun d h => absurd h (by simp [s0, State.reset, State.powerOn, Keyboard.powerOn]), fun d h => ?_⟩
  simp [ticking] at h
  omega

theorem test_witness_TypematicSchedule :
    s0.t0.queue.length + 1 + 7 ≤ s0.cfg.queueCap ∧ s0.now + s0.k.delayMs * 1000 = 500000
    ∧ 500000 + (7 - 1) * s0.k.intervalUs ≤ 1100000 ∧ 1100000 < 500000 + 7 * s0.k.intervalUs
    ∧ 499999 < 500000 + 0 * s0.k.intervalUs := by decide

/-- The clauses of the three mode tables: a poll with the host byte waiting. -/
theorem test_witness_hostInstr :
    (({ s0 with rx0 := [0x5E8#11] } : State).hostInstr (.poll .kbd true) = some .kbdEnable)
    ∧ (({ s0 with rx0 := [0x7EA#11] } : State).hostInstr (.poll .kbd true) = some .kbdDisable)
    ∧ (({ s0 with rx0 := [0x7FE#11] } : State).hostInstr (.poll .kbd true) = some .kbdReset)
    ∧ (({ s0 with rx1 := [0x7FE#11] } : State).hostInstr (.poll .mouse true) = some .mouseReset)
    ∧ (({ s0 with rx1 := [0x5E8#11] } : State).hostInstr (.poll .mouse true) = some .mouseEnable)
    ∧ (({ s0 with rx1 := [0x7EA#11] } : State).hostInstr (.poll .mouse true) = some .mouseDisable)
    ∧ (({ s0 with rx1 := [0x6A0#11], t1 := { s0.t1 with lastRx := 0xF3#8 } } : State).hostInstr (.poll .mouse true)
        = some (.mouseRateParam 0x50#8))
    ∧ s0.hostInstr .ledSync = none := by decide

theorem test_witness_ModeMachines :
    afterStep { s0 with rx0 := [0x7FE#11], agenda := [.poll .kbd true] } (fun t => (t.k.enabled, t.k.mode))
      = some (false, .resetInProgress)
    ∧ afterStep { s0 with now := 500000, k := { s0.k with resetPending := [500000] }
                          agenda := [.kbdResetDone 500000] } (fun t => (t.k.enabled, t.k.mode))
      = some (true, .scanning)
    ∧ afterStep { s0 with rx0 := [0x7EA#11], agenda := [.poll .kbd true] } (fun t => t.k.mode) = some .disabled
    ∧ afterStep { s0 with agenda := [.ledSync] } (fun t => t.k.mode) = some .scanning
    ∧ afterStep { s0 with rx1 := [0x5E8#11], agenda := [.poll .mouse true] } (fun t => (t.m.streaming, t.m.emitTimer))
      = some (true, some 10000)
    ∧ afterStep { s0 with rx1 := [0x7FE#11], agenda := [.poll .mouse true] } (fun t => t.m.level)
      = some .standard := by decide

theorem test_witness_EmitTickByRule :
    ticking.m.emitTimer = some 10000 ∧ 10000 ≤ ticking.now ∧ ticking.m.rate ≠ 0x00#8 ∧ ticking.m.wasMoving = false
    ∧ ticking.m.accDx = 0#16 ∧ ticking.m.accDy = 0#16 ∧ ticking.m.accWheel = 0#8
    ∧ ({ ticking.m with accDy := 0x8000#16 } : Mouse).accDy ≠ 0#16 := by decide

theorem test_witness_MovementPacketByRule :
    let m := { Mouse.powerOn with accDx := 0x8000#16, accDy := 0x7FFF#16, accWheel := 0x80#8 }
    (-255 : Int) = min (max m.accDx.toInt (-255)) 255 ∧ (-255 : Int) = - min (max m.accDy.toInt (-255)) 255
    ∧ (-8 : Int) = min (max m.accWheel.toInt (-8)) 7 ∧ m.level = .standard := by decide

theorem test_witness_ResidualLeavesInFullPackets :
    let s := { ticking with now := 100000, m := { ticking.m with accDx := 300#16 } }
    s.m.accDx.toInt = ((300 : Nat) : Int) ∧ 2 = (300 + 254) / 255 ∧ 10000 + 2 * (1000000 / s.m.rate.toNat) ≤ s.now
    ∧ s.t1.queue.length + 2 ≤ s.cfg.queueCap ∧ s.m.emitTimer = some 10000 ∧ s.m.rate ≠ 0x00#8
    ∧ 1 = (255 + 254) / 255 ∧ 2 = (256 + 254) / 255 := by decide

theorem test_witness_LocalItemsByRule :
    (5#16 : Usage) = BitVec.ofNat 16 (itemValue (.b1 5#8)) ∧ (0xFFFF#16 : Usage) = BitVec.ofNat 16 (itemValue (.b4 0xFFFFFFFF#32))
    ∧ Parser.init.lUsageMin = none ∧ ({ Parser.init with lUsageMax := some 0xFFFF#16 } : Parser).lUsageMax = some 0xFFFF#16 := by
  decide

theorem test_witness_CollectionsByRule :
    Parser.init.depth = 0 ∧ ({ Parser.init with depth := 1, table := List.replicate 7 Report.empty } : Parser).table.length < reportMax
    ∧ 2 ≤ ({ Parser.init with depth := 2 } : Parser).depth := by decide

theorem test_witness_MainDataItemsMakeFields :
    itemValue (.b1 0x01#8) % 2 = 1 ∧ itemValue .none % 2 ≠ 1
    ∧ fieldMax - ({ Parser.init with gReportCount := 33 } : Parser).cur.fields.length < 33
    ∧ ¬ fieldMax - ({ Parser.init with gReportCount := 32 } : Parser).cur.fields.length < 32 := by decide

theorem test_witness_ExtractFieldByRule :
    (32 : Nat) = min (0xFF#8 : Byte).toNat 32 ∧ (0 : Nat) = min (0x00#8 : Byte).toNat 32
    ∧ extractField ⟨16#16, 8#8, .input, 1#16, 0x31#16, 0xFFFFFF81#32, 0x7F#32⟩ [0x01#8, 0x0A#8, 0xF6#8] = -10 := by
  decide

/-- An instance table whose lower slots are free or are not the key's. -/
theorem test_witness_instanceTable :
    (∃ d, oneKeyboard.dev[3]? = some d ∧ d.valid = true ∧ d.addr = 1#8 ∧ d.itf = 2#8 ∧ d.itfProtocol = 1#8)
    ∧ (∀ j < 3, ∀ e, oneKeyboard.dev[j]? = some e → ¬ (e.valid = true ∧ e.addr = 1#8 ∧ e.itf = 2#8))
    ∧ (∃ d, oneKeyboard.dev[0]? = some d ∧ d.valid = false)
    ∧ (∀ e ∈ oneKeyboard.dev, ¬ (e.valid = true ∧ e.addr = 9#8 ∧ e.itf = 9#8))
    ∧ (∀ d ∈ oneMouse.dev, d.valid = true ∧ ¬ (d.valid = true ∧ d.addr = 9#8 ∧ d.itf = 9#8)) := by
  refine ⟨⟨_, rfl, by decide⟩, ?_, ⟨_, rfl, rfl⟩, by decide, by decide⟩
  intro j hj e he
  interval_cases j <;> cases he <;> decide

theorem test_witness_ReportSelectionByRule :
    (∃ d, twoReports.dev[0]? = some d ∧ d.valid = true ∧ (∃ r ∈ d.reports, r.reportId ≠ 0x00#8)
      ∧ d.reports = [⟨1#8, 0x01#16, 0x06#16, []⟩] ++ ⟨2#8, 0x01#16, 0x02#16, []⟩ :: []
      ∧ (∀ r ∈ [(⟨1#8, 0x01#16, 0x06#16, []⟩ : Report)], r.reportId ≠ 2#8) ∧ (∀ r ∈ d.reports, r.reportId ≠ 3#8))
    ∧ (∃ d, oneMouse.dev[0]? = some d ∧ d.valid = true ∧ d.reports = [] ∧ d.itfProtocol = 2#8)
    ∧ ∀ j < 0, ∀ e, oneMouse.dev[j]? = some e → ¬ (e.valid = true ∧ e.addr = 1#8 ∧ e.itf = 2#8) :=
  ⟨⟨_, rfl, by decide⟩, ⟨_, rfl, by decide⟩, fun j hj => absurd hj (by omega)⟩

theorem test_witness_RoutingByRule :
    ((0x01#16, 0x07#16) : Usage × Usage) ∈ [((0x01#16, 0x06#16) : Usage × Usage), (0x01#16, 0x07#16)]
    ∧ ((0x01#16, 0x01#16) : Usage × Usage) ∈ [((0x01#16, 0x01#16) : Usage × Usage), (0x01#16, 0x02#16)]
    ∧ ((0x01#16, 0x03#16) : Usage × Usage) ∉ [((0x01#16, 0x06#16) : Usage × Usage), (0x01#16, 0x07#16),
      (0x01#16, 0x01#16), (0x01#16, 0x02#16)]
    ∧ (∃ d, twoReports.dev[0]? = some d ∧ d.itfProtocol ≠ 1#8 ∧ d.itfProtocol ≠ 2#8) :=
  ⟨by decide, by decide, by decide, _, rfl, by decide⟩

theorem test_witness_KeyChangesByRule :
    (∃ d, oneKeyboard.dev[3]? = some d)
    ∧ (keysFromBoot [0x02#8, 0#8, 4#8, 5#8, 6#8, 7#8, 8#8, 0xFF#8]).arr.length = 6
    ∧ 0x00#8 ∉ (keysFromBoot [0x02#8, 0#8, 4#8, 5#8, 6#8, 7#8, 8#8, 0xFF#8]).arr := ⟨⟨_, rfl⟩, by decide, by decide⟩

theorem test_witness_RepeatedKeyboardReportIsSilent :
    let rep : List Byte := [0x02#8, 0x00#8, 0x04#8, 0#8, 0#8, 0#8, 0#8, 0#8]
    findInstance 1#8 2#8 oneKeyboard.dev = some 3
    ∧ selectReport (oneKeyboard.devAt 3) rep = .selected none rep ∧ (oneKeyboard.devAt 3).itfProtocol = 1#8
    ∧ (keysFromBoot rep).rollover = false
    ∧ after (.usbReport 1#8 2#8 rep) oneKeyboard (·.t0.queue.length) = some 2
    ∧ selectReport (twoReports.devAt 0) (1#8 :: rep) = .selected (some ⟨1#8, 0x01#16, 0x06#16, []⟩) rep
    ∧ Report.isKeyboard ⟨1#8, 0x01#16, 0x06#16, []⟩ = true := by decide +kernel

/-- Power applied again to a machine at work; log 17 keeps the outputs. -/
theorem test_witness_PowerOnState :
    afterStep { busy with now := 9, out := [.usbLed 0 0x01#8], agenda := [.powerOn, .ledSync] }
      (fun t => (t.t0.queue, t.now, t.out, t.agenda)) = some ([], 0, [.usbLed 0 0x01#8], [.ledSync])
    ∧ ({ defaultParams with powerOnBat := true } : Params).powerOnBat = true := by decide

/-- A state that meets the invariant, with an event to step. -/
theorem test_witness_StepKeepsInvariant :
    Inv { tiny with agenda := [.onKeyTransition 0xE0#8 true] }
    ∧ afterStep { tiny with agenda := [.onKeyTransition 0xE0#8 true] } (·.k.mods) = some 0x01#8 := by
  refine ⟨⟨⟨by decide, by decide, by decide⟩, ⟨by decide, by decide, by decide, by decide⟩,
    ⟨by decide, by decide, by decide, by decide⟩, ⟨by decide, by decide, by decide, by decide, by decide, by decide⟩,
    ⟨by decide, by decide, by decide, by decide⟩, ⟨by decide, by simp [tiny, State.powerOn, defaultParams], ?_⟩, ⟨⟨by decide, by decide⟩, by decide, by decide⟩⟩,
    by decide⟩
  intro i j a b h
  simp [tiny, State.powerOn] at h

theorem test_witness_LogIsNeverRead :
    SameButLog { s0 with agenda := [.ledSync] } { s0 with agenda := [.ledSync], log := [⟨.hostResend .kbd, 0⟩] } := rfl

theorem test_witness_LogOutputsTimeAndParameters :
    afterStep { s0 with agenda := [.advance 5] } (·.now) = some 5
    ∧ afterStep { s0 with now := 9, agenda := [.powerOn] } (·.now) = some 0
    ∧ (∀ us, ({ s0 with agenda := [.ledSync] } : State).agenda.head? ≠ some (.advance us))
    ∧ ({ s0 with agenda := [.ledSync] } : State).agenda.head? ≠ some .powerOn :=
  ⟨by decide, by decide, fun _ => by simp, by simp⟩

end Sys2Proof.Tests
end

section
/-! The bit-frame codec (R200, R201): what each bit of a frame holds, what the decoder reads of a word, and
that one inverted parity bit turns the parity flag over. -/

namespace Sys2Proof.Proofs

open Sys2Proof Sys2Proof.Machine

/-! ## Parity -/

theorem toNat_oddParityBit (b : Byte) : (oddParityBit b).toNat = 1 - popcount b % 2 := by
  obtain h | h := Nat.mod_two_eq_zero_or_one (popcount b) <;> simp [oddParityBit, h]

/-- The parity bit makes the number of 1 bits odd. -/
theorem popcount_add_oddParityBit (b : Byte) : (popcount b + (oddParityBit b).toNat) % 2 = 1 := by
  rw [toNat_oddParityBit]
  omega

@[simp] theorem parityFlag_not (b : Byte) (p : Bool) : parityFlag b (!p) = !parityFlag b p := by
  obtain h | h := Nat.mod_two_eq_zero_or_one (popcount b) <;>
    cases p <;> simp [parityFlag, Nat.add_mod, h]

/-! ## `encodeFrame` (R200) -/

theorem getLsbD_encodeFrame_start (b : Byte) : (encodeFrame b).getLsbD 0 = false := by
  simp [encodeFrame]

theorem getLsbD_encodeFrame_data (b : Byte) (i : Nat) (hi : i < 8) :
    (encodeFrame b).getLsbD (i + 1) = b.getLsbD i := by
  interval_cases i <;> simp [encodeFrame]

theorem getLsbD_encodeFrame_parity (b : Byte) : (encodeFrame b).getLsbD 9 = oddParityBit b := by
  simp [encodeFrame]

theorem getLsbD_encodeFrame_stop (b : Byte) : (encodeFrame b).getLsbD 10 = true := by
  simp [encodeFrame]

/-- The stop bit, the parity bit and the byte do not overlap, so the frame is their sum. -/
theorem toNat_encodeFrame (b : Byte) :
    (encodeFrame b).toNat = 1024 + 512 * (oddParityBit b).toNat + 2 * b.toNat := by
  have hb : 2 * b.toNat < 2 ^ 9 := by have := b.isLt; omega
  have hdata : (b.setWidth 11 <<< 1).toNat = 2 * b.toNat := by
    rw [BitVec.toNat_shiftLeft, BitVec.toNat_setWidth, Nat.shiftLeft_eq]
    omega
  have hfields : (encodeFrame b).toNat = 2 ^ 9 * (2 + (oddParityBit b).toNat) ||| 2 * b.toNat := by
    cases h : oddParityBit b <;> simp [-BitVec.toNat_shiftLeft, encodeFrame, h, hdata]
  rw [hfields, ← Nat.two_pow_add_eq_or_of_lt hb]
  omega

/-! ## `decodeFrame` (R201) -/

theorem getLsbD_decodeFrame_fst (raw : Frame) (i : Nat) (hi : i < 8) :
    (decodeFrame raw).1.getLsbD i = raw.getLsbD (i + 1) := by
  simp [decodeFrame, hi, Nat.add_comm]

theorem decodeFrame_snd (raw : Frame) :
    (decodeFrame raw).2 = parityFlag (decodeFrame raw).1 (raw.getLsbD 9) := rfl

/-- The decoder reads bits 9:1 only. -/
theorem decodeFrame_congr {raw raw' : Frame}
    (h : ∀ i, 1 ≤ i → i ≤ 9 → raw.getLsbD i = raw'.getLsbD i) : decodeFrame raw = decodeFrame raw' := by
  have hbyte : (decodeFrame raw).1 = (decodeFrame raw').1 := by
    apply BitVec.eq_of_getLsbD_eq
    intro i hi
    rw [getLsbD_decodeFrame_fst raw i hi, getLsbD_decodeFrame_fst raw' i hi]
    exact h (i + 1) (by omega) (by omega)
  apply Prod.ext hbyte
  rw [decodeFrame_snd, decodeFrame_snd, hbyte, h 9 (by omega) le_rfl]

/-- Bits 15:11 of the two bytes of a word are not part of the frame. -/
theorem frameOfBytes_congr (lo : Byte) {hi hi' : Byte} (h : ∀ i < 3, hi.getLsbD i = hi'.getLsbD i) :
    frameOfBytes lo hi = frameOfBytes lo hi' := by
  apply BitVec.eq_of_getLsbD_eq
  intro i hlt
  simp only [frameOfBytes, BitVec.getLsbD_setWidth, BitVec.getLsbD_append]
  split
  · rfl
  · rw [h (i - 8) (by omega)]

theorem getLsbD_xor_parityMask (raw : Frame) (i : Nat) :
    (raw ^^^ 0x200#11).getLsbD i = (raw.getLsbD i ^^ decide (i = 9)) := by
  have hmask : (0x200#11).getLsbD i = decide (i = 9) := by
    rw [show 0x200#11 = BitVec.twoPow 11 9 from rfl, BitVec.getLsbD_twoPow]
    simp [eq_comm]
  rw [BitVec.getLsbD_xor, hmask]

/-- A single inverted parity bit leaves the byte and turns the flag over. -/
theorem decodeFrame_xor_parityMask (raw : Frame) :
    decodeFrame (raw ^^^ 0x200#11) = ((decodeFrame raw).1, !(decodeFrame raw).2) := by
  have hbyte : (decodeFrame (raw ^^^ 0x200#11)).1 = (decodeFrame raw).1 := by
    apply BitVec.eq_of_getLsbD_eq
    intro i hi
    rw [getLsbD_decodeFrame_fst _ i hi, getLsbD_decodeFrame_fst _ i hi, getLsbD_xor_parityMask]
    simp [show i ≠ 8 by omega]
  refine Prod.ext hbyte ?_
  simp [decodeFrame_snd, hbyte]

/-! ## The obligation -/

/-- R200 as one number: stop bit, parity bit, byte. -/
theorem encodeFrame_eq_ofNat (b : Byte) :
    encodeFrame b = BitVec.ofNat 11 (1024 + 512 * (1 - popcount b % 2) + 2 * b.toNat) := by
  rw [← toNat_oddParityBit, ← toNat_encodeFrame, BitVec.ofNat_toNat, BitVec.setWidth_eq]

/-- Settles O1: the bits of a frame from its four fields, and the decoder from the bits it reads. -/
theorem codecByRule : Obligations.CodecByRule := by
  refine ⟨fun b => ⟨encodeFrame_eq_ofNat b, getLsbD_encodeFrame_start b, getLsbD_encodeFrame_stop b,
    getLsbD_encodeFrame_data b, ?_, by decide, by decide, by decide⟩,
    fun raw => ⟨getLsbD_decodeFrame_fst raw, decodeFrame_snd raw⟩, fun _ _ => decodeFrame_congr,
    fun lo _ _ => frameOfBytes_congr lo, ?_, by decide, by decide⟩
  · rw [getLsbD_encodeFrame_parity]
    exact popcount_add_oddParityBit b
  · intro raw hok
    rw [decodeFrame_xor_parityMask, hok, Bool.not_true]

end Sys2Proof.Proofs
end

section
/-! The transceiver (R221, R229 to R241): what its instructions do in one equation each, what each of the
poll's three steps does in each of its cases, and that steps 1 and 2 do not look at the received frames. -/

namespace Sys2Proof.Proofs

open Sys2Proof Sys2Proof.Machine

/-! ## The instructions -/

theorem exec_enqueue (p : Port) (bytes : List Byte) (s : State) :
    exec (.enqueue p bytes) s = .next (enqueue p bytes s) := rfl

theorem exec_hostByteParityError (p : Port) (raw : Frame) (s : State) :
    exec (.hostByteParityError p raw) s = .next ((s.sendByte p 0xFE#8).raise (.parityError p raw)) := rfl

theorem exec_hostResend (p : Port) (s : State) :
    exec (.hostResend p) s = .next ((s.sendByte p (s.t p).lastTx).raise (.hostResend p)) := rfl

theorem exec_phyRx (p : Port) (raw : Frame) (s : State) :
    exec (.phyRx p raw) s = .next (s.setRx p (s.rx p ++ [raw])) := rfl

theorem exec_phyTxFail (p : Port) (s : State) :
    exec (.phyTxFail p) s = .next (s.setT p { s.t p with failLatch := true }) := rfl

theorem exec_poll (p : Port) (lineIdle : Bool) (s : State) :
    exec (.poll p lineIdle) s = pollReceive p (pollTransmit p lineIdle (pollRecover p s)) := rfl

/-! ## Writes to different fields commute -/

theorem setT_setRx (s : State) (p q : Port) (x : Transceiver) (f : List Frame) :
    (s.setRx q f).setT p x = (s.setT p x).setRx q f := by
  cases p <;> cases q <;> rfl

theorem raise_setRx (s : State) (q : Port) (f : List Frame) (c : Condition) :
    (s.setRx q f).raise c = (s.raise c).setRx q f := by
  cases q <;> rfl

theorem sendByte_setRx (s : State) (p q : Port) (b : Byte) (f : List Frame) :
    (s.setRx q f).sendByte p b = (s.sendByte p b).setRx q f := by
  cases q <;> rfl

/-- A dropped packet: one more drop, one more record. -/
theorem raise_countDrop (s : State) (p : Port) (c : Condition) :
    (s.countDrop p).raise c = { s.setT p { s.t p with drops := (s.t p).drops + 1 } with
      log := s.log ++ [⟨c, s.now⟩] } := by
  simp [State.raise_eq, State.countDrop]

/-! ## Poll step 1: recovery (R230) -/

theorem pollRecover_of_noFail {p : Port} {s : State} (h : (s.t p).failLatch = false) :
    pollRecover p s = s := by
  simp [pollRecover, h]

theorem pollRecover_of_fail {p : Port} {s : State} (h : (s.t p).failLatch = true) :
    pollRecover p s = { s.setT p { s.t p with
      bytesSent := (s.t p).bytesSent - 1, failLatch := false } with
      log := s.log ++ [⟨.txFail p, s.now⟩] } := by
  simp [pollRecover, h, State.raise_eq]

/-- Of its own transceiver step 1 writes `bytesSent` and `failLatch` only. -/
theorem pollRecover_t_of_fail {p : Port} {s : State} (h : (s.t p).failLatch = true) :
    (pollRecover p s).t p = { s.t p with
      bytesSent := (s.t p).bytesSent - 1, failLatch := false } := by
  simp [pollRecover, h]

theorem pollRecover_setRx (p q : Port) (f : List Frame) (s : State) :
    pollRecover p (s.setRx q f) = (pollRecover p s).setRx q f := by
  unfold pollRecover
  rw [State.setRx_t]
  split_ifs
  · rw [setT_setRx, raise_setRx]
  · rfl

/-! ## Poll step 2: transmit or retire (R231) -/

/-- Step 2 waits while the port backs off, the line is busy or nothing is queued. -/
theorem pollTransmit_of_blocked {p : Port} {lineIdle : Bool} {s : State}
    (h : s.now < (s.t p).busyUntil ∨ lineIdle = false ∨ (s.t p).queue = []) :
    pollTransmit p lineIdle s = s := by
  obtain heq | ⟨pk, q, b, hq, -, ⟨hbusy, hline⟩, -⟩ | ⟨pk, q, hq, -, ⟨hbusy, hline⟩, -⟩ :=
    pollTransmit_cases p lineIdle s
  · exact heq
  all_goals
    obtain h | h | h := h
    · omega
    · simp [hline] at h
    · simp [hq] at h

section Eligible

variable {p : Port} {s : State} {pk : List Byte} {q : List (List Byte)}
  (hbusy : (s.t p).busyUntil ≤ s.now) (hq : (s.t p).queue = pk :: q)

include hbusy hq

theorem pollTransmit_of_byte {b : Byte} (hb : pk[(s.t p).bytesSent]? = some b) :
    pollTransmit p true s = { s.setT p { s.t p with
      bytesSent := (s.t p).bytesSent + 1, lastTx := b, busyUntil := s.now + s.cfg.backoffUs } with
      out := s.out ++ [.phyTx p (encodeFrame b)] } := by
  simp [pollTransmit, hbusy, hq, hb, sendNext, State.sendByte_eq]

theorem pollTransmit_of_finished (hlen : (s.t p).bytesSent = pk.length) :
    pollTransmit p true s = s.setT p { s.t p with queue := q, bytesSent := 0 } := by
  simp [pollTransmit, hbusy, hq, hlen, popHead]

end Eligible

theorem sendNext_setRx (p q : Port) (b : Byte) (f : List Frame) (s : State) :
    sendNext p b (s.setRx q f) = (sendNext p b s).setRx q f := by
  simp only [sendNext, State.setRx_t, State.setRx_now, State.setRx_cfg, setT_setRx, sendByte_setRx]

theorem popHead_setRx (p q : Port) (f : List Frame) (s : State) :
    popHead p (s.setRx q f) = (popHead p s).setRx q f := by
  simp only [popHead, State.setRx_t, setT_setRx]

theorem pollTransmit_setRx (p q : Port) (lineIdle : Bool) (f : List Frame) (s : State) :
    pollTransmit p lineIdle (s.setRx q f) = (pollTransmit p lineIdle s).setRx q f := by
  simp only [pollTransmit, State.setRx_t, State.setRx_now, sendNext_setRx, popHead_setRx]
  split_ifs
  · cases (s.t p).queue with
    | nil => rfl
    | cons pk _ =>
      dsimp only
      cases pk[(s.t p).bytesSent]? <;> rfl
  · rfl

/-! ## Poll step 3: one received frame (R234) -/

/-- With nothing received a poll is its first two steps. -/
theorem exec_poll_of_rx_nil {p : Port} {s : State} (lineIdle : Bool) (h : s.rx p = []) :
    exec (.poll p lineIdle) s = .next (pollTransmit p lineIdle (pollRecover p s)) := by
  have hrx : (pollTransmit p lineIdle (pollRecover p s)).rx p = [] := by simpa using h
  rw [exec_poll, pollReceive, hrx]

/-- With frames received a poll is its first two steps, then the first frame's instruction. -/
theorem exec_poll_of_rx_cons {p : Port} {s : State} (lineIdle : Bool) {raw : Frame} {more : List Frame}
    (h : s.rx p = raw :: more) :
    exec (.poll p lineIdle) s = exec (decodeWire p (s.t p).lastRx raw)
      ((pollTransmit p lineIdle (pollRecover p s)).setRx p more) := by
  have hrx : (pollTransmit p lineIdle (pollRecover p s)).rx p = raw :: more := by simpa using h
  rw [exec_poll, pollReceive, hrx]
  simp only [pollTransmit_lastRx, pollRecover_lastRx, runHost_decodeWire]

/-! ## The obligations -/

/-- Settles O17: the direct sends are one output and one record, the PHY signals one field. -/
theorem directSendsAndPhySignals : Obligations.DirectSendsAndPhySignals := by
  refine ⟨fun p raw s => ⟨?_, ?_⟩, fun p raw s => ⟨exec_phyRx p raw s, exec_phyTxFail p s⟩⟩
  · rw [exec_hostByteParityError, State.raise_eq, State.sendByte_eq]
  · rw [exec_hostResend, State.raise_eq, State.sendByte_eq]

/-- Settles O18, by the cases of R221. -/
theorem enqueueByRule : Obligations.EnqueueByRule := by
  refine fun p bytes s => ⟨fun hlen => ?_, fun h0 h8 hfull => ?_, fun h0 h8 hroom => ?_,
    exec_enqueue p bytes s⟩
  · rw [← List.length_eq_zero_iff] at hlen
    rw [exec_enqueue, enqueue_badLength p bytes s hlen, raise_countDrop]
  · rw [exec_enqueue, enqueue_full p bytes s h0 h8 hfull, raise_countDrop]
  · rw [exec_enqueue, enqueue_room p bytes s h0 h8 hroom]

/-- Settles O19: the poll is step 2 after step 1, and both commute with the arrival of frames. -/
theorem pollTransmitsOrRetires : Obligations.PollTransmitsOrRetires := by
  intro p lineIdle s hrx
  rw [exec_poll_of_rx_nil lineIdle hrx]
  refine ⟨fun hok hblocked => ?blocked, fun hfail hblocked => ?recovered,
    fun pk q b hok hbusy hline hq hb => ?sent, fun pk q hok hbusy hline hq hlen => ?popped,
    fun pk q b n hfail hbusy hline hq hn hb => ?resent, fun raw more t ht => ?received⟩
  case blocked => rw [pollRecover_of_noFail hok, pollTransmit_of_blocked hblocked]
  case recovered =>
    rw [pollTransmit_of_blocked (by simpa [pollRecover_t_of_fail hfail] using hblocked),
      pollRecover_of_fail hfail]
  case sent =>
    subst hline
    rw [pollRecover_of_noFail hok, pollTransmit_of_byte hbusy hq hb]
  case popped =>
    subst hline
    rw [pollRecover_of_noFail hok, pollTransmit_of_finished hbusy hq hlen]
  case resent =>
    subst hline hn
    have ht := pollRecover_t_of_fail hfail
    rw [pollTransmit_of_byte (b := b) (by simpa [ht] using hbusy) (by simpa [ht] using hq)
      (by simpa [ht] using hb), ht, pollRecover_of_fail hfail]
    cases p <;> rfl
  case received =>
    obtain rfl : pollTransmit p lineIdle (pollRecover p s) = t := by simpa using ht
    rw [exec_poll_of_rx_cons lineIdle (State.setRx_rx_same s p (raw :: more)), State.setRx_t,
      pollRecover_setRx, pollTransmit_setRx, State.setRx_setRx]

end Sys2Proof.Proofs
end

section
/-! The HID parser (R270 to R287, R300): an item's data as a number, what each operation on the interpreter
does in each of its cases, what each item does to a state, and the bits a field reads of a report. -/

namespace Sys2Proof.Proofs

open Sys2Proof Sys2Proof.Machine

/-! ## Item data (R155) -/

@[simp] theorem toNat_itemUnsigned (d : ItemData) : (itemUnsigned d).toNat = itemValue d := by
  cases d with
  | none => rfl
  | b1 v => exact BitVec.toNat_setWidth_of_le (by decide)
  | b2 v => exact BitVec.toNat_setWidth_of_le (by decide)
  | b4 v => rfl

/-- An item's data at a register's width: the value mod 2 to that width. -/
theorem setWidth_itemUnsigned (w : Nat) (d : ItemData) :
    (itemUnsigned d).setWidth w = BitVec.ofNat w (itemValue d) := by
  rw [← BitVec.ofNat_toNat, toNat_itemUnsigned]

@[simp] theorem toInt_itemSigned (d : ItemData) : (itemSigned d).toInt = itemSignedValue d := by
  cases d with
  | none => rfl
  | b1 v => exact BitVec.toInt_signExtend_of_le (by decide)
  | b2 v => exact BitVec.toInt_signExtend_of_le (by decide)
  | b4 v => rfl

/-! ## The usage range (R278) -/

theorem usageRange_eq (a b : Usage) :
    usageRange a b = (List.range' a.toNat (b.toNat + 1 - a.toNat)).map (BitVec.ofNat 16) := by
  rw [usageRange, List.range'_eq_map_range, List.map_map]
  rfl

theorem usageRange_eq_nil {a b : Usage} (h : b.toNat < a.toNat) : usageRange a b = [] := by
  rw [usageRange, Nat.sub_eq_zero_of_le h, List.range_zero, List.map_nil]

theorem expandRange_of_min_none {q : Parser} (h : q.lUsageMin = none) : q.expandRange = q := by
  simp only [Parser.expandRange, h]

theorem expandRange_of_max_none {q : Parser} (h : q.lUsageMax = none) : q.expandRange = q := by
  cases hmin : q.lUsageMin <;> simp only [Parser.expandRange, hmin, h]

/-- An empty range adds nothing, so a complete pair always appends its range. -/
theorem expandRange_of_some {q : Parser} {a b : Usage} (hmin : q.lUsageMin = some a)
    (hmax : q.lUsageMax = some b) :
    q.expandRange = { q with
      lUsages := q.lUsages ++ usageRange a b, lUsageMin := none, lUsageMax := none } := by
  simp only [Parser.expandRange, hmin, hmax]
  split_ifs with hle
  · rfl
  · rw [usageRange_eq_nil (by omega), List.append_nil]

/-! ## Collections (R284, R285) -/

theorem openCollection_outermost {q : Parser} (h : q.depth = 0) :
    q.openCollection = { q.clearLocals with
      depth := 1
      cur := { q.cur with topUsagePage := q.gUsagePage, topUsage := q.lUsages.headD 0#16 } } := by
  simp [Parser.openCollection, Parser.clearLocals, h]

theorem openCollection_nested {q : Parser} (h : q.depth ≠ 0) :
    q.openCollection = { q.clearLocals with depth := q.depth + 1 } := by
  simp [Parser.openCollection, Parser.clearLocals, h]

theorem endCollection_unbalanced {q : Parser} (h : q.depth = 0) : q.endCollection = q.clearLocals :=
  if_pos h

theorem endCollection_nested {q : Parser} (h : 2 ≤ q.depth) :
    q.endCollection = { q.clearLocals with depth := q.depth - 1 } := by
  rw [Parser.endCollection, if_neg (by omega), if_neg (by omega)]
  rfl

theorem closeReport_of_room {q : Parser} (h : q.table.length < reportMax) :
    q.closeReport = { q with
      table := q.table ++ [{ q.cur with reportId := q.gReportId }]
      cur := Report.empty, offIn := 0, offOut := 0, offFeat := 0 } := by
  rw [Parser.closeReport, if_pos h]

theorem endCollection_outermost {q : Parser} (h : q.depth = 1) :
    q.endCollection = { q.closeReport with depth := 0 }.clearLocals := by
  rw [Parser.endCollection, if_neg (by omega), if_pos h]

/-! ## The instructions -/

theorem exec_hidUsagePage (d : ItemData) (s : State) : exec (.hidUsagePage d) s = .next { s with
    parser := { s.parser with gUsagePage := (itemUnsigned d).setWidth 16 } } := rfl

theorem exec_hidLogicalMin (d : ItemData) (s : State) : exec (.hidLogicalMin d) s = .next { s with
    parser := { s.parser with gLogMin := itemSigned d } } := rfl

theorem exec_hidLogicalMax (d : ItemData) (s : State) : exec (.hidLogicalMax d) s = .next { s with
    parser := { s.parser with gLogMax := itemSigned d } } := rfl

theorem exec_hidReportSize (d : ItemData) (s : State) : exec (.hidReportSize d) s = .next { s with
    parser := { s.parser with gReportSize := (itemUnsigned d).setWidth 8 } } := rfl

theorem exec_hidReportId (d : ItemData) (s : State) : exec (.hidReportId d) s = .next { s with
    parser := { s.parser with gReportId := (itemUnsigned d).setWidth 8 } } := rfl

theorem exec_hidReportCount (d : ItemData) (s : State) : exec (.hidReportCount d) s = .next { s with
    parser := { s.parser with gReportCount := (itemUnsigned d).toNat } } := rfl

theorem exec_hidUsage (d : ItemData) (s : State) : exec (.hidUsage d) s = .next { s with
    parser := { s.parser with lUsages := s.parser.lUsages ++ [(itemUnsigned d).setWidth 16] } } := rfl

theorem exec_hidUsageMin (d : ItemData) (s : State) : exec (.hidUsageMin d) s = .next { s with
    parser := { s.parser with lUsageMin := some ((itemUnsigned d).setWidth 16) }.expandRange } := rfl

theorem exec_hidUsageMax (d : ItemData) (s : State) : exec (.hidUsageMax d) s = .next { s with
    parser := { s.parser with lUsageMax := some ((itemUnsigned d).setWidth 16) }.expandRange } := rfl

theorem exec_hidCollection (d : ItemData) (s : State) :
    exec (.hidCollection d) s = .next { s with parser := s.parser.openCollection } := rfl

theorem exec_hidEndCollection (d : ItemData) (s : State) :
    exec (.hidEndCollection d) s = .next { s with parser := s.parser.endCollection } := rfl

/-! ## Report bits and fields (R300) -/

theorem reportBit_eq (rep : List Byte) (n : Nat) :
    reportBit rep n = (rep[n / 8]?.getD 0x00#8).getLsbD (n % 8) := by
  rw [reportBit, List.getD_eq_getElem?_getD]

theorem reportRead_lt (rep : List Byte) (off w : Nat) : reportRead rep off w < 2 ^ w := by
  induction w with
  | zero => exact Nat.one_pos
  | succ w ih =>
    have hbit := Nat.mul_le_mul_right (2 ^ w) (Bool.toNat_le (reportBit rep (off + w)))
    rw [reportRead, pow_succ]
    omega

/-- The bits a read adds lie above those it has read. -/
theorem testBit_reportRead (rep : List Byte) (off w k : Nat) (hk : k < w) :
    (reportRead rep off w).testBit k = reportBit rep (off + k) := by
  induction w with
  | zero => omega
  | succ w ih =>
    rw [reportRead, Nat.add_comm, Nat.mul_comm, Nat.testBit_two_pow_mul_add _ (reportRead_lt rep off w)]
    obtain hlt | rfl := Nat.lt_succ_iff_lt_or_eq.mp hk
    · rw [if_pos hlt, ih hlt]
    · cases reportBit rep (off + k) <;> simp

/-- R300's sign rule over the bits read. -/
theorem extractField_eq (f : Field) (rep : List Byte) :
    let w := min f.bitWidth.toNat 32
    let v := reportRead rep f.bitOffset.toNat w
    extractField f rep =
      if f.logicalMin.toInt < 0 ∧ 0 < w ∧ 2 ^ (w - 1) ≤ v then (v : Int) - 2 ^ w else v := by
  intro w v
  have hunfold : extractField f rep = if f.logicalMin.msb && 0 < w then sext w v else v := rfl
  rw [hunfold, BitVec.msb_eq_toInt]
  by_cases hsigned : f.logicalMin.toInt < 0 ∧ 0 < w
  · rw [if_pos (by simpa using hsigned), sext]
    split_ifs <;> omega
  · rw [if_neg (by simpa using hsigned), if_neg (fun ⟨hneg, hw, _⟩ => hsigned ⟨hneg, hw⟩)]

/-! ## The obligations -/

/-- Settles O38: each item writes its data to its global, at the global's width. -/
theorem globalItemsByRule : Obligations.GlobalItemsByRule := by
  rintro d s _ rfl
  refine ⟨?_, ?_, ?_, ?_, itemSigned d, toInt_itemSigned d, exec_hidLogicalMin d s, exec_hidLogicalMax d s⟩
  · rw [exec_hidUsagePage, setWidth_itemUnsigned]
  · rw [exec_hidReportSize, setWidth_itemUnsigned]
  · rw [exec_hidReportId, setWidth_itemUnsigned]
  · rw [exec_hidReportCount, toNat_itemUnsigned]

/-- Settles O39, item by item: the meaning of each is the whole state, or its state with the locals
cleared. -/
theorem inertItemsByRule : Obligations.InertItemsByRule := by
  refine ⟨fun d tag ltag data s i hi => ?inert, fun d s i hi => ?mainReserved⟩
  case inert => fin_cases hi <;> rfl
  case mainReserved => fin_cases hi <;> rfl

/-- Settles O40: an item without its partner is held, one with its partner expands the range. -/
theorem localItemsByRule : Obligations.LocalItemsByRule := by
  rintro d s _ rfl
  rw [exec_hidUsage, exec_hidUsageMin, exec_hidUsageMax, setWidth_itemUnsigned]
  refine ⟨rfl, fun hmax => ?_, fun hmin => ?_, fun w hmax => ?_, fun w hmin => ?_⟩
  · rw [expandRange_of_max_none (q := { s.parser with lUsageMin := some _ }) hmax]
  · rw [expandRange_of_min_none (q := { s.parser with lUsageMax := some _ }) hmin]
  · rw [expandRange_of_some (q := { s.parser with lUsageMin := some _ }) rfl hmax, usageRange_eq]
  · rw [expandRange_of_some (q := { s.parser with lUsageMax := some _ }) hmin rfl, usageRange_eq]

/-- Settles O41, by the depth at which the collection opens or ends. -/
theorem collectionsByRule : Obligations.CollectionsByRule := by
  rintro d s _ rfl
  rw [exec_hidCollection, exec_hidEndCollection]
  refine ⟨fun h0 => ?_, fun h => ?_, fun h0 => ?_, fun h1 hroom => ?_, fun h2 => ?_⟩
  · rw [openCollection_outermost h0, List.headD_eq_head?_getD]
    rfl
  · rw [openCollection_nested h]
    rfl
  · rw [endCollection_unbalanced h0]
    rfl
  · rw [endCollection_outermost h1, closeReport_of_room hroom]
    rfl
  · rw [endCollection_nested h2]
    rfl

/-- Settles O45: the value read is `reportRead`'s, whose bits are the report's. -/
theorem extractFieldByRule : Obligations.ExtractFieldByRule := by
  rintro f rep _ rfl
  refine ⟨_, reportRead_lt _ _ _, fun k hk => ?_, extractField_eq f rep⟩
  rw [testBit_reportRead _ _ _ _ hk, reportBit_eq]

end Sys2Proof.Proofs
end

section
/-! HID report dispatch (R310 to R317, R330): the slot of an interface in the device table, what a mount, a
report and an unmount do to the state in each of their cases, and the path a report takes. -/

namespace Sys2Proof.Proofs

open Sys2Proof Sys2Proof.Machine

/-! ## The device table (R310, R315, R330) -/

@[simp] theorem matchesKey_iff (addr itf : Byte) (d : HidInstance) :
    d.matchesKey addr itf = true ↔ d.valid = true ∧ d.addr = addr ∧ d.itf = itf := by
  simp [HidInstance.matchesKey, and_assoc]

/-- The first index whose element satisfies p is the one `findIdx?` answers. -/
theorem findIdx?_eq_some_of_first {α : Type} {p : α → Bool} {l : List α} {i : Nat} {a : α}
    (ha : l[i]? = some a) (hp : p a = true) (hfirst : ∀ j < i, ∀ b, l[j]? = some b → ¬ p b = true) :
    l.findIdx? p = some i := by
  obtain ⟨hi, rfl⟩ := List.getElem?_eq_some_iff.mp ha
  exact List.findIdx?_eq_some_iff_getElem.mpr
    ⟨hi, hp, fun j hj => hfirst j hj _ (List.getElem?_eq_getElem (by omega))⟩

theorem findInstance_eq_none {addr itf : Byte} {dev : List HidInstance}
    (h : ∀ d ∈ dev, ¬ (d.valid = true ∧ d.addr = addr ∧ d.itf = itf)) : findInstance addr itf dev = none :=
  List.findIdx?_eq_none_iff.mpr fun d hd =>
    Bool.eq_false_iff.mpr fun hm => h d hd ((matchesKey_iff addr itf d).mp hm)

section FirstMatch

variable {addr itf : Byte} {dev : List HidInstance} {i : Nat} {d : HidInstance} (hd : dev[i]? = some d)

include hd

theorem findInstance_eq_some (hmine : d.valid = true ∧ d.addr = addr ∧ d.itf = itf)
    (hfirst : ∀ j < i, ∀ e, dev[j]? = some e → ¬ (e.valid = true ∧ e.addr = addr ∧ e.itf = itf)) :
    findInstance addr itf dev = some i :=
  findIdx?_eq_some_of_first hd ((matchesKey_iff addr itf d).mpr hmine)
    fun j hj e he hm => hfirst j hj e he ((matchesKey_iff addr itf e).mp hm)

theorem findFree_eq_some (hfree : d.valid = false)
    (hfirst : ∀ j < i, ∀ e, dev[j]? = some e → e.valid = true) : findFree dev = some i :=
  findIdx?_eq_some_of_first hd (by simpa using hfree) fun j hj e he => by simp [hfirst j hj e he]

end FirstMatch

theorem findFree_eq_none {dev : List HidInstance} (h : ∀ d ∈ dev, d.valid = true) : findFree dev = none :=
  List.findIdx?_eq_none_iff.mpr fun d hd => by simp [h d hd]

theorem mountSlot_of_known {addr itf : Byte} {dev : List HidInstance} {i : Nat}
    (h : findInstance addr itf dev = some i) : mountSlot addr itf dev = some i := by
  rw [mountSlot, h]

theorem mountSlot_of_unknown {addr itf : Byte} {dev : List HidInstance}
    (h : findInstance addr itf dev = none) : mountSlot addr itf dev = findFree dev := by
  rw [mountSlot, h]

theorem devAt_of_getElem? {s : State} {i : Nat} {d : HidInstance} (h : s.dev[i]? = some d) :
    s.devAt i = d := by
  rw [State.devAt, List.getD_eq_getElem?_getD, h, Option.getD_some]

/-! ## What a parse writes (R260) -/

/-- x differs from s in the interpreter and in the log only. -/
def ParserStep (s x : State) : Prop := x = { s with parser := x.parser, log := x.log }

theorem ParserStep.trans {s x y : State} (h : ParserStep s x) (g : ParserStep x y) : ParserStep s y := by
  rw [ParserStep] at h g ⊢
  rw [g, h]

/-- The walk writes what its items write, their positions and at most one condition more. -/
theorem walk_parserStep (n : Nat) (bytes : List Byte) (s : State) : ParserStep s (walk n bytes s) := by
  induction n generalizing bytes s with
  | zero => rfl
  | succ n ih =>
    cases bytes with
    | nil => rfl
    | cons b bs =>
      rw [walk]
      split
      · rfl
      · next i rest _ =>
        have hitem : ParserStep s (advancePos ((b :: bs).length - rest.length) (runItem i s)) :=
          ParserStep.trans (runItem_frame i s) rfl
        refine ite_cases (fun _ => hitem.trans ?_) fun _ => hitem.trans (ih rest _)
        exact ite_cases (fun _ => rfl) fun _ => rfl

theorem parse_parserStep (desc : List Byte) (s : State) : ParserStep s (parse desc s) :=
  ParserStep.trans (x := s.setParser Parser.init) rfl (walk_parserStep _ _ _)

/-! ## Mount and unmount (R310, R330) -/

theorem exec_usbMount_of_full {addr itf : Byte} {s : State} (proto : Byte) (desc : List Byte)
    (h : mountSlot addr itf s.dev = none) :
    exec (.usbMount addr itf proto desc) s = .next { s with
      log := s.log ++ [⟨.instanceTableFull addr itf, s.now⟩] } := by
  change execUsbMount addr itf proto desc s = _
  rw [execUsbMount, h]
  rfl

theorem exec_usbMount_of_slot {addr itf : Byte} {s : State} {i : Nat} (proto : Byte) (desc : List Byte)
    (h : mountSlot addr itf s.dev = some i) :
    exec (.usbMount addr itf proto desc) s = .next { s with
      parser := Parser.init
      log := (parse desc s).log
      out := s.out ++ [.usbRequestReport i]
      dev := s.dev.set i (mountedInstance addr itf proto (parse desc s).parser.table) } := by
  change execUsbMount addr itf proto desc s = _
  have hparse := parse_parserStep desc s
  rw [ParserStep] at hparse
  rw [execUsbMount, h]
  generalize parse desc s = t at hparse ⊢
  rw [hparse]
  rfl

theorem exec_usbUnmount_of_unknown {addr itf : Byte} {s : State} (h : findInstance addr itf s.dev = none) :
    exec (.usbUnmount addr itf) s = .next s := by
  change execUsbUnmount addr itf s = _
  rw [execUsbUnmount, h]

theorem exec_usbUnmount_of_known {addr itf : Byte} {s : State} {i : Nat}
    (h : findInstance addr itf s.dev = some i) :
    exec (.usbUnmount addr itf) s = .next { s with
      dev := s.dev.set i { s.devAt i with valid := false } } := by
  change execUsbUnmount addr itf s = _
  rw [execUsbUnmount, h]
  rfl

/-! ## Reports (R315, R316) -/

theorem usesIds_iff (d : HidInstance) :
    d.reports.any (fun r => r.reportId != 0x00#8) = true ↔ ∃ r ∈ d.reports, r.reportId ≠ 0x00#8 := by
  simp

section WithIds

variable {d : HidInstance} (hids : ∃ r ∈ d.reports, r.reportId ≠ 0x00#8)

include hids

theorem selectReport_of_empty : selectReport d [] = .unmatched none := by
  rw [selectReport, if_pos ((usesIds_iff d).mpr hids)]

theorem selectReport_of_noMatch {rid : Byte} (payload : List Byte)
    (hnone : ∀ r ∈ d.reports, r.reportId ≠ rid) : selectReport d (rid :: payload) = .unmatched (some rid) := by
  have hfind : d.reports.find? (fun r => r.reportId == rid) = none :=
    List.find?_eq_none.mpr fun r hr => by simpa using hnone r hr
  rw [selectReport, if_pos ((usesIds_iff d).mpr hids), hfind]

theorem selectReport_of_match {rid : Byte} (payload : List Byte) {before after : List Report} {rd : Report}
    (hsplit : d.reports = before ++ rd :: after) (hrd : rd.reportId = rid)
    (hbefore : ∀ r ∈ before, r.reportId ≠ rid) :
    selectReport d (rid :: payload) = .selected (some rd) payload := by
  have hfind : d.reports.find? (fun r => r.reportId == rid) = some rd :=
    List.find?_eq_some_iff_append.mpr
      ⟨by simpa using hrd, before, after, hsplit, fun r hr => by simpa using hbefore r hr⟩
  rw [selectReport, if_pos ((usesIds_iff d).mpr hids), hfind]

end WithIds

theorem selectReport_of_noIds {d : HidInstance} (h : ¬ ∃ r ∈ d.reports, r.reportId ≠ 0x00#8)
    (rep : List Byte) : selectReport d rep = .selected d.reports.head? rep := by
  unfold selectReport
  exact if_neg (mt (usesIds_iff d).mp h)

theorem exec_usbReport_of_unknown {addr itf : Byte} {s : State} (rep : List Byte)
    (h : findInstance addr itf s.dev = none) :
    exec (.usbReport addr itf rep) s = .next { s with
      log := s.log ++ [⟨.unknownInstance addr itf, s.now⟩] } := by
  change execUsbReport addr itf rep s = _
  rw [execUsbReport, h]
  rfl

theorem exec_usbReport_of_unmatched {addr itf : Byte} {s : State} {i : Nat} {rep : List Byte}
    {rid : Option Byte} (h : findInstance addr itf s.dev = some i)
    (hsel : selectReport (s.devAt i) rep = .unmatched rid) :
    exec (.usbReport addr itf rep) s = .next { s with
      log := s.log ++ [⟨.reportUnmatched i rid, s.now⟩]
      out := s.out ++ [.usbRequestReport i] } := by
  change execUsbReport addr itf rep s = _
  rw [execUsbReport, h]
  dsimp only
  rw [hsel]
  rfl

theorem exec_usbReport_of_selected {addr itf : Byte} {s : State} {i : Nat} {rep payload : List Byte}
    {rd : Option Report} (h : findInstance addr itf s.dev = some i)
    (hsel : selectReport (s.devAt i) rep = .selected rd payload) :
    exec (.usbReport addr itf rep) s = .next { route i rd payload s with
      out := (route i rd payload s).out ++ [.usbRequestReport i] } := by
  change execUsbReport addr itf rep s = _
  rw [execUsbReport, h]
  dsimp only
  rw [hsel]
  rfl

/-! ## Routing (R317) -/

theorem hasTop_iff (r : Report) (page usage : Usage) :
    r.hasTop page usage = true ↔ (r.topUsagePage, r.topUsage) = (page, usage) := by
  simp [Report.hasTop]

theorem isKeyboard_iff (r : Report) : r.isKeyboard = true ↔
    (r.topUsagePage, r.topUsage) ∈ [((0x01#16, 0x06#16) : Usage × Usage), (0x01#16, 0x07#16)] := by
  simp only [Report.isKeyboard, Bool.or_eq_true, hasTop_iff, List.mem_cons, List.not_mem_nil, or_false]

theorem hasMouseTop_iff (r : Report) :
    (r.hasTop 0x01#16 0x02#16 || r.hasTop 0x01#16 0x01#16) = true ↔
    (r.topUsagePage, r.topUsage) ∈ [((0x01#16, 0x01#16) : Usage × Usage), (0x01#16, 0x02#16)] := by
  rw [Bool.or_comm]
  simp only [Bool.or_eq_true, hasTop_iff, List.mem_cons, List.not_mem_nil, or_false]

section Route

variable {rd : Report} (i : Nat) (payload : List Byte) (s : State)

theorem route_keyboard (h : rd.isKeyboard = true) :
    route i (some rd) payload s = keyboardReport i (keysFromFields rd payload) s := by
  rw [route, if_pos h]

theorem route_mouse (hk : ¬ rd.isKeyboard = true)
    (hm : (rd.hasTop 0x01#16 0x02#16 || rd.hasTop 0x01#16 0x01#16) = true) :
    route i (some rd) payload s = mouseReport (movementFromFields rd payload) s := by
  rw [route, if_neg hk, if_pos hm]

theorem route_other (hk : ¬ rd.isKeyboard = true)
    (hm : ¬ (rd.hasTop 0x01#16 0x02#16 || rd.hasTop 0x01#16 0x01#16) = true) :
    route i (some rd) payload s = { s with log := s.log ++ [⟨.reportIgnored i, s.now⟩] } := by
  rw [route, if_neg hk, if_neg hm, State.raise_eq]

theorem route_bootKeyboard (h : (s.devAt i).itfProtocol = 1#8) :
    route i none payload s = keyboardReport i (keysFromBoot payload) s := by
  rw [route, if_pos h]

theorem route_bootMouse (h : (s.devAt i).itfProtocol = 2#8) :
    route i none payload s = mouseReport (movementFromBoot payload) s := by
  rw [route, if_neg (by rw [h]; decide), if_pos h]

theorem route_bootOther (h1 : (s.devAt i).itfProtocol ≠ 1#8) (h2 : (s.devAt i).itfProtocol ≠ 2#8) :
    route i none payload s = { s with log := s.log ++ [⟨.reportIgnored i, s.now⟩] } := by
  rw [route, if_neg h1, if_neg h2, State.raise_eq]

end Route

/-! ## The obligations -/

/-- Settles O46: the slot by the cases of R310, the rest from what a parse writes. -/
theorem mountAndUnmountByRule : Obligations.MountAndUnmountByRule := by
  refine ⟨fun s addr itf proto desc => ⟨fun hfull => ?full, fun i d hd hslot => ?slot⟩,
    fun s addr itf => ⟨fun hnone => exec_usbUnmount_of_unknown (findInstance_eq_none hnone),
      fun i d hd hmine hfirst => ?unmount⟩⟩
  case full =>
    apply exec_usbMount_of_full
    rw [mountSlot_of_unknown (findInstance_eq_none fun d hd => (hfull d hd).2),
      findFree_eq_none fun d hd => (hfull d hd).1]
  case slot =>
    apply exec_usbMount_of_slot
    obtain ⟨hmine, hfirst⟩ | ⟨hnone, hfree, hfirst⟩ := hslot
    · exact mountSlot_of_known (findInstance_eq_some hd hmine hfirst)
    · rw [mountSlot_of_unknown (findInstance_eq_none hnone), findFree_eq_some hd hfree hfirst]
  case unmount =>
    rw [exec_usbUnmount_of_known (findInstance_eq_some hd hmine hfirst), devAt_of_getElem? hd]

/-- Settles O47, by the outcomes of R316's selection. -/
theorem reportSelectionByRule : Obligations.ReportSelectionByRule := by
  intro s addr itf rep mine
  refine ⟨fun hnone => exec_usbReport_of_unknown rep (findInstance_eq_none hnone),
    fun i d hd hmine hfirst => ?_⟩
  have hfind := findInstance_eq_some hd hmine hfirst
  obtain rfl := devAt_of_getElem? hd
  refine ⟨fun hids hrep => ?empty, fun rid payload hids hrep hnone => ?noMatch,
    fun rid payload before rd after hids hrep hsplit hrd hbefore => ?selected, fun hids => ?noIds⟩
  case empty => exact exec_usbReport_of_unmatched hfind (hrep ▸ selectReport_of_empty hids)
  case noMatch =>
    exact exec_usbReport_of_unmatched hfind (hrep ▸ selectReport_of_noMatch hids payload hnone)
  case selected =>
    exact exec_usbReport_of_selected hfind
      (hrep ▸ selectReport_of_match hids payload hsplit hrd hbefore)
  case noIds => exact exec_usbReport_of_selected hfind (selectReport_of_noIds hids rep)

/-- Settles O48: the keyboard's and the mouse's top usages exclude each other, and so do the boot
protocols. -/
theorem routingByRule : Obligations.RoutingByRule := by
  intro s i d rd payload hd
  obtain rfl := devAt_of_getElem? hd
  refine ⟨fun hk => route_keyboard i payload s ((isKeyboard_iff rd).mpr hk), fun hm => ?mouse,
    fun hother => ?other, route_bootKeyboard i payload s, route_bootMouse i payload s,
    route_bootOther i payload s⟩
  case mouse =>
    refine route_mouse i payload s (fun hk => ?_) ((hasMouseTop_iff rd).mpr hm)
    rw [isKeyboard_iff] at hk
    generalize (rd.topUsagePage, rd.topUsage) = top at hk hm
    fin_cases hk <;> exact absurd hm (by decide)
  case other =>
    rw [show ∀ a b c d : Usage × Usage, [a, b, c, d] = [a, b] ++ [c, d] from fun _ _ _ _ => rfl,
      List.mem_append, not_or] at hother
    obtain ⟨hk, hm⟩ := hother
    exact route_other i payload s (mt (isKeyboard_iff rd).mp hk) (mt (hasMouseTop_iff rd).mp hm)

/-! ## The boot mouse from arrival to accumulators (R322, R410) -/

theorem payloadByte_eq (payload : List Byte) (k : Nat) : payloadByte payload k = payload[k]?.getD 0x00#8 :=
  List.getD_eq_getElem?_getD

/-- R410 over a report whose buttons are masked already. -/
theorem mouseReport_eq {r : MouseReport} (h : r.buttons &&& 0x1F#8 = r.buttons) (s : State) :
    mouseReport r s = { s with m := { s.m with
      buttons := r.buttons
      wasMoving := s.m.wasMoving || r.buttons != s.m.buttons
      accDx := BitVec.ofInt 16 (s.m.accDx.toInt + r.dx)
      accDy := BitVec.ofInt 16 (s.m.accDy.toInt + r.dy)
      accWheel := BitVec.ofInt 8 (s.m.accWheel.toInt + r.wheel) } } := by
  have hmoving : (if r.buttons ≠ s.m.buttons then true else s.m.wasMoving)
      = (s.m.wasMoving || r.buttons != s.m.buttons) := by
    by_cases heq : r.buttons = s.m.buttons <;> simp [heq]
  rw [mouseReport, onMovement, h, hmoving]
  rfl

theorem movementFromBoot_buttons_masked (payload : List Byte) :
    (movementFromBoot payload).buttons &&& 0x1F#8 = (movementFromBoot payload).buttons := by
  rw [movementFromBoot, BitVec.and_assoc, BitVec.and_self]

/-- Settles O53: selection without IDs, the boot path of protocol 2, and R410. -/
theorem bootMouseReportByRule : Obligations.BootMouseReportByRule := by
  intro s addr itf rep i d hd hvalid haddr hitf hfirst hreports hproto
  have hfind := findInstance_eq_some hd ⟨hvalid, haddr, hitf⟩ hfirst
  obtain rfl := devAt_of_getElem? hd
  have hsel : selectReport (s.devAt i) rep = .selected none rep := by
    rw [selectReport_of_noIds (by simp [hreports]), hreports, List.head?_nil]
  rw [exec_usbReport_of_selected hfind hsel, route_bootMouse i rep s hproto,
    mouseReport_eq (movementFromBoot_buttons_masked rep)]
  simp only [movementFromBoot, payloadByte_eq]

end Sys2Proof.Proofs
end

section
/-! Keyboard reports (R318, R319): what one 1-bit field and one array slot add to a report, and what all of
them add together. -/

namespace Sys2Proof.Proofs

open Sys2Proof Sys2Proof.Machine

/-! ## Bits, folds and lists without duplicates -/

theorem getLsbD_setBit_true {w : Nat} (v : BitVec w) (n : Nat) {k : Nat} (hk : k < w) :
    (setBit v n true).getLsbD k = true ↔ v.getLsbD k = true ∨ n = k := by
  have hmask : (1#w <<< n).getLsbD k = true ↔ n = k := by
    rw [← BitVec.twoPow_eq, BitVec.getLsbD_twoPow]
    simp only [Bool.and_eq_true, decide_eq_true_eq]
    omega
  rw [setBit, if_pos rfl, BitVec.getLsbD_or, Bool.or_eq_true, hmask]

/-- Where each step adds one way to satisfy P, a fold satisfies P from its start or by one of its
elements. -/
theorem foldl_iff {α β : Type} {f : β → α → β} {P : β → Prop} {Q : α → Prop}
    (hstep : ∀ b a, P (f b a) ↔ P b ∨ Q a) (l : List α) (b : β) :
    P (l.foldl f b) ↔ P b ∨ ∃ a ∈ l, Q a := by
  induction l generalizing b with
  | nil => simp
  | cons a l ih => simp [ih, hstep, or_assoc]

theorem eraseDups_concat (l : List Byte) (c : Byte) :
    (l ++ [c]).eraseDups = if c ∈ l then l.eraseDups else l.eraseDups ++ [c] := by
  rw [List.eraseDups_append]
  split_ifs with h <;> simp [List.removeAll, h, List.eraseDups_cons]

theorem length_eraseDups_le (l : List Byte) : l.eraseDups.length ≤ l.length := by
  induction l using List.reverseRecOn with
  | nil => rw [List.eraseDups_nil]
  | append_singleton l c ih =>
    rw [eraseDups_concat, List.length_append]
    split_ifs
    · omega
    · rw [List.length_append]
      omega

/-! ## The key array (R318) -/

/-- The values of an array slot that join the key array: not empty, not the rollover error, no modifier. -/
abbrev IsArrayKey (c : Byte) : Prop := 4 ≤ c.toNat ∧ ¬ (0xE0 ≤ c.toNat ∧ c.toNat ≤ 0xE7)

/-- What a slot's value c makes of the key array. -/
def insertKey (arr : List Byte) (c : Byte) : List Byte :=
  if IsArrayKey c ∧ c ∉ arr ∧ arr.length < keyArrayMax then arr ++ [c] else arr

/-- The first six distinct keys of the slots. -/
def arrayOf (slots : List Byte) : List Byte := ((slots.filter (fun c => IsArrayKey c)).eraseDups).take 6

/-- Cutting the distinct keys at six as they come, or after all have come, leaves the same array. -/
theorem insertKey_take (l : List Byte) {c : Byte} (hc : IsArrayKey c) :
    insertKey (l.eraseDups.take 6) c = ((l ++ [c]).eraseDups).take 6 := by
  have hroom : c ∉ l.eraseDups.take 6 ∧ (l.eraseDups.take 6).length < keyArrayMax ↔
      c ∉ l ∧ l.eraseDups.length < 6 := by
    rw [List.length_take, ← List.mem_eraseDups (l := l), keyArrayMax]
    constructor
    · rintro ⟨hnot, hlen⟩
      have hlen' : l.eraseDups.length < 6 := by omega
      rw [List.take_of_length_le (by omega)] at hnot
      exact ⟨hnot, hlen'⟩
    · rintro ⟨hnot, hlen⟩
      exact ⟨fun hmem => hnot (List.mem_of_mem_take hmem), by omega⟩
  rw [insertKey, eraseDups_concat]
  by_cases hmem : c ∈ l
  · rw [if_neg (fun h => (hroom.mp h.2).1 hmem), if_pos hmem]
  · rw [if_neg hmem]
    by_cases hlen : l.eraseDups.length < 6
    · rw [if_pos ⟨hc, hroom.mpr ⟨hmem, hlen⟩⟩, List.take_of_length_le (by omega),
        List.take_of_length_le (by rw [List.length_append, List.length_singleton]; omega)]
    · rw [if_neg (fun h => hlen (hroom.mp h.2).2), List.take_append_of_le_length (by omega)]

theorem foldl_insertKey (slots : List Byte) : slots.foldl insertKey [] = arrayOf slots := by
  induction slots using List.reverseRecOn with
  | nil => simp [arrayOf]
  | append_singleton slots c ih =>
    rw [List.foldl_concat, ih, arrayOf, arrayOf, List.filter_append]
    by_cases hc : IsArrayKey c
    · rw [insertKey_take _ hc, List.filter_singleton, decide_eq_true hc, cond_true]
    · rw [insertKey, if_neg (fun h => hc h.1), List.filter_singleton, decide_eq_false hc, cond_false,
        List.append_nil]

/-- Six slots have at most six distinct keys. -/
theorem arrayOf_of_length_le {slots : List Byte} (h : slots.length ≤ 6) :
    arrayOf slots = (slots.filter (fun c => IsArrayKey c)).eraseDups :=
  List.take_of_length_le ((length_eraseDups_le _).trans ((List.length_filter_le _ _).trans h))

/-! ## One 1-bit field -/

section OneElement

variable (r : KeyReport) (u : Usage) (c : Byte)

@[simp] theorem addBit_arr : (r.addBit u).arr = r.arr := by
  unfold KeyReport.addBit
  split_ifs <;> rfl

@[simp] theorem addBit_rollover : (r.addBit u).rollover = r.rollover := by
  unfold KeyReport.addBit
  split_ifs <;> rfl

theorem addBit_mods {n : Nat} (hn : n < 8) :
    (r.addBit u).mods.getLsbD n = true ↔ r.mods.getLsbD n = true ∨ u.toNat = 0xE0 + n := by
  unfold KeyReport.addBit
  split_ifs with hmod
  · rw [getLsbD_setBit_true _ _ hn, show u.toNat - 0xE0 = n ↔ u.toNat = 0xE0 + n by omega]
  all_goals simp only [show u.toNat ≠ 0xE0 + n by omega, or_false]

theorem addBit_bitmap {n : Nat} (hn : n < 128) :
    (r.addBit u).bitmap.getLsbD n = true ↔ r.bitmap.getLsbD n = true ∨ u.toNat = n := by
  unfold KeyReport.addBit
  split_ifs with hmod hlow
  · simp only [show u.toNat ≠ n by omega, or_false]
  · exact getLsbD_setBit_true _ _ hn
  · simp only [show u.toNat ≠ n by omega, or_false]

/-! ## One array slot -/

theorem isModifier_iff : isModifier c = true ↔ 0xE0 ≤ c.toNat ∧ c.toNat ≤ 0xE7 := by
  simp [isModifier]

/-- A slot's value is the rollover error, a modifier, or a candidate for the array. -/
theorem addKey_cases :
    (c = 0x01#8 ∧ r.addKey c = { r with rollover := true })
    ∨ ((0xE0 ≤ c.toNat ∧ c.toNat ≤ 0xE7)
      ∧ r.addKey c = { r with mods := setBit r.mods (c.toNat - 0xE0) true })
    ∨ (c ≠ 0x01#8 ∧ ¬ (0xE0 ≤ c.toNat ∧ c.toNat ≤ 0xE7)
      ∧ r.addKey c = { r with arr := insertKey r.arr c }) := by
  by_cases hroll : c = 0x01#8
  · exact .inl ⟨hroll, if_pos hroll⟩
  by_cases hmod : 0xE0 ≤ c.toNat ∧ c.toNat ≤ 0xE7
  · have hindex : (modIndex c : Nat) = c.toNat - 0xE0 := by
      change c.toNat % 8 = c.toNat - 0xE0
      omega
    refine .inr (.inl ⟨hmod, ?_⟩)
    rw [KeyReport.addKey, if_neg hroll, if_pos ((isModifier_iff c).mpr hmod), hindex]
  · refine .inr (.inr ⟨hroll, hmod, ?_⟩)
    rw [KeyReport.addKey, if_neg hroll, if_neg (mt (isModifier_iff c).mp hmod), insertKey]
    simp only [IsArrayKey, hmod, not_false_eq_true, and_true]
    split_ifs <;> rfl

theorem addKey_bitmap : (r.addKey c).bitmap = r.bitmap := by
  obtain ⟨-, h⟩ | ⟨-, h⟩ | ⟨-, -, h⟩ := addKey_cases r c <;> rw [h]

theorem addKey_rollover : (r.addKey c).rollover = true ↔ r.rollover = true ∨ c = 0x01#8 := by
  obtain ⟨rfl, h⟩ | ⟨hmod, h⟩ | ⟨hne, -, h⟩ := addKey_cases r c <;> rw [h]
  · simp
  · have hne : c ≠ 0x01#8 := by rintro rfl; exact absurd hmod (by decide)
    simp [hne]
  · simp [hne]

theorem addKey_mods {n : Nat} (hn : n < 8) :
    (r.addKey c).mods.getLsbD n = true ↔ r.mods.getLsbD n = true ∨ c.toNat = 0xE0 + n := by
  obtain ⟨rfl, h⟩ | ⟨hmod, h⟩ | ⟨-, hmod, h⟩ := addKey_cases r c <;> rw [h]
  · simp only [BitVec.toNat_ofNat, show 1 % 2 ^ 8 ≠ 0xE0 + n by omega, or_false]
  · rw [getLsbD_setBit_true _ _ hn, show c.toNat - 0xE0 = n ↔ c.toNat = 0xE0 + n by omega]
  · simp only [show c.toNat ≠ 0xE0 + n by omega, or_false]

theorem addKey_arr : (r.addKey c).arr = insertKey r.arr c := by
  obtain ⟨rfl, h⟩ | ⟨hmod, h⟩ | ⟨-, -, h⟩ := addKey_cases r c <;> rw [h]
  · exact (if_neg (by simp)).symm
  · exact (if_neg (fun hkey => hkey.1.2 hmod)).symm

end OneElement

/-! ## The fields of a report (R318) -/

/-- The Input fields of the Keyboard page. -/
def keyFields (rd : Report) : List Field :=
  rd.fields.filter (fun f => f.itemKind = .input ∧ f.usagePage = 0x07#16)

/-- The 1-bit fields whose value is not 0. -/
def setBits (rd : Report) (payload : List Byte) : List Field :=
  (keyFields rd).filter (fun f => f.bitWidth = 1#8 ∧ extractField f payload ≠ 0)

/-- The values of the array slots. -/
def slotValues (rd : Report) (payload : List Byte) : List Byte :=
  ((keyFields rd).filter (fun f => 2 ≤ f.bitWidth.toNat)).map (fun f => BitVec.ofInt 8 (extractField f payload))

/-- A field adds its usage, or its slot's value, or nothing. -/
theorem keyboard_addField_cases (payload : List Byte) (r : KeyReport) (f : Field) :
    let inPage := f.itemKind = .input ∧ f.usagePage = 0x07#16
    let isSet := f.bitWidth = 1#8 ∧ extractField f payload ≠ 0
    ((inPage ∧ isSet) ∧ ¬ 2 ≤ f.bitWidth.toNat ∧ r.addField payload f = r.addBit f.usage)
    ∨ ((inPage ∧ 2 ≤ f.bitWidth.toNat) ∧ ¬ isSet
      ∧ r.addField payload f = r.addKey (BitVec.ofInt 8 (extractField f payload)))
    ∨ (¬ (inPage ∧ isSet) ∧ ¬ (inPage ∧ 2 ≤ f.bitWidth.toNat) ∧ r.addField payload f = r) := by
  intro inPage isSet
  unfold KeyReport.addField
  by_cases hpage : f.itemKind = .input ∧ f.usagePage = 0x07#16
  · rw [if_pos hpage]
    by_cases hone : f.bitWidth = 1#8
    · have hnarrow : ¬ 2 ≤ f.bitWidth.toNat := by rw [hone]; decide
      by_cases hval : extractField f payload ≠ 0
      · exact .inl ⟨⟨hpage, hone, hval⟩, hnarrow, by simp only [if_pos hone, if_pos hval]⟩
      · exact .inr (.inr ⟨fun ⟨_, _, hset⟩ => hval hset, fun ⟨_, hwide⟩ => hnarrow hwide, by
          simp only [if_pos hone, if_neg hval]⟩)
    · by_cases hwide : 2 ≤ f.bitWidth.toNat
      · exact .inr (.inl ⟨⟨hpage, hwide⟩, fun h => hone h.1, by
          simp only [if_neg hone, if_pos hwide]; rfl⟩)
      · exact .inr (.inr ⟨fun ⟨_, hset, _⟩ => hone hset, fun ⟨_, hslot⟩ => hwide hslot, by
          simp only [if_neg hone, if_neg hwide]⟩)
  · exact .inr (.inr ⟨fun h => hpage h.1, fun h => hpage h.1, if_neg hpage⟩)

/-- A property that bits and slots can only add holds of a report's keys by its start, one of its set bits
or one of its slots. -/
theorem keysFromFields_iff {P : KeyReport → Prop} {A : Usage → Prop} {B : Byte → Prop}
    (hbit : ∀ r u, P (r.addBit u) ↔ P r ∨ A u) (hkey : ∀ r c, P (r.addKey c) ↔ P r ∨ B c)
    (rd : Report) (payload : List Byte) :
    P (keysFromFields rd payload) ↔
      P KeyReport.empty ∨ (∃ f ∈ setBits rd payload, A f.usage) ∨ ∃ c ∈ slotValues rd payload, B c := by
  have hfield : ∀ r f, P (KeyReport.addField payload r f) ↔ P r ∨
      (((f.itemKind = .input ∧ f.usagePage = 0x07#16) ∧ f.bitWidth = 1#8 ∧ extractField f payload ≠ 0)
        ∧ A f.usage)
      ∨ ((f.itemKind = .input ∧ f.usagePage = 0x07#16) ∧ 2 ≤ f.bitWidth.toNat)
        ∧ B (BitVec.ofInt 8 (extractField f payload)) := by
    intro r f
    obtain ⟨hset, hslot, h⟩ | ⟨hslot, hset, h⟩ | ⟨hset, hslot, h⟩ := keyboard_addField_cases payload r f <;> rw [h]
    · rw [hbit, and_iff_right hset]
      simp only [hslot, and_false, false_and, or_false]
    · rw [hkey, and_iff_right hslot]
      simp only [hset, and_false, false_and, false_or]
    · simp only [hset, hslot, false_and, or_false]
  rw [keysFromFields, foldl_iff hfield]
  simp only [slotValues, List.mem_map, exists_exists_and_eq_and]
  simp only [setBits, keyFields, List.mem_filter, decide_eq_true_eq, and_assoc, and_or_left, exists_or]

theorem keysFromFields_arr (rd : Report) (payload : List Byte) :
    (keysFromFields rd payload).arr = arrayOf (slotValues rd payload) := by
  rw [← foldl_insertKey, keysFromFields, slotValues, keyFields, List.foldl_map, List.foldl_filter,
    List.foldl_filter]
  refine (List.foldl_hom KeyReport.arr fun r f => ?_).symm
  simp only [decide_eq_true_eq]
  obtain ⟨-, hslot, h⟩ | ⟨⟨hpage, hslot⟩, -, h⟩ | ⟨-, hslot, h⟩ := keyboard_addField_cases payload r f <;> rw [h]
  · rw [if_neg hslot, ite_self, addBit_arr]
  · rw [if_pos hpage, if_pos hslot, addKey_arr]
  · rw [← ite_and, if_neg hslot]

section Parts

variable (rd : Report) (payload : List Byte)

theorem keysFromFields_rollover :
    (keysFromFields rd payload).rollover = true ↔ 0x01#8 ∈ slotValues rd payload := by
  rw [keysFromFields_iff (P := fun r => r.rollover = true) (A := fun _ => False)
    (fun r u => by rw [addBit_rollover, or_false]) addKey_rollover]
  simp [KeyReport.empty]

theorem keysFromFields_mods {n : Nat} (hn : n < 8) : (keysFromFields rd payload).mods.getLsbD n = true ↔
    (∃ f ∈ setBits rd payload, f.usage.toNat = 0xE0 + n)
      ∨ ∃ c ∈ slotValues rd payload, c.toNat = 0xE0 + n := by
  rw [keysFromFields_iff (P := fun r => r.mods.getLsbD n = true) (A := fun u => u.toNat = 0xE0 + n)
    (fun r u => addBit_mods r u hn) fun r c => addKey_mods r c hn]
  simp [KeyReport.empty]

theorem keysFromFields_bitmap {n : Nat} (hn : n < 128) :
    (keysFromFields rd payload).bitmap.getLsbD n = true ↔ ∃ f ∈ setBits rd payload, f.usage.toNat = n := by
  rw [keysFromFields_iff (P := fun r => r.bitmap.getLsbD n = true) (A := fun u => u.toNat = n)
    (B := fun _ => False) (fun r u => addBit_bitmap r u hn) fun r c => by rw [addKey_bitmap, or_false]]
  simp [KeyReport.empty]

end Parts

/-! ## A boot report (R319) -/

/-- Bytes 2 to 7. -/
def bootSlots (payload : List Byte) : List Byte := [2, 3, 4, 5, 6, 7].map (payloadByte payload)

/-- A property that slots can only add holds of a boot report's keys by its modifier byte or one of its
slots. -/
theorem keysFromBoot_iff {P : KeyReport → Prop} {B : Byte → Prop}
    (hkey : ∀ r c, P (r.addKey c) ↔ P r ∨ B c) (payload : List Byte) :
    P (keysFromBoot payload) ↔
      P { KeyReport.empty with mods := payloadByte payload 0 } ∨ ∃ c ∈ bootSlots payload, B c :=
  foldl_iff hkey _ _

theorem keysFromBoot_arr (payload : List Byte) :
    (keysFromBoot payload).arr = arrayOf (bootSlots payload) := by
  rw [← foldl_insertKey]
  exact (List.foldl_hom KeyReport.arr fun r c => (addKey_arr r c).symm).symm

theorem keysFromBoot_rollover (payload : List Byte) :
    (keysFromBoot payload).rollover = true ↔ 0x01#8 ∈ bootSlots payload := by
  rw [keysFromBoot_iff (P := fun r => r.rollover = true) addKey_rollover]
  simp [KeyReport.empty]

theorem keysFromBoot_mods (payload : List Byte) {n : Nat} (hn : n < 8) :
    (keysFromBoot payload).mods.getLsbD n = true ↔
      (payloadByte payload 0).getLsbD n = true ∨ ∃ c ∈ bootSlots payload, c.toNat = 0xE0 + n :=
  keysFromBoot_iff (P := fun r => r.mods.getLsbD n = true) (fun r c => addKey_mods r c hn) payload

theorem keysFromBoot_bitmap (payload : List Byte) : (keysFromBoot payload).bitmap = 0#128 :=
  List.foldlRecOn (motive := fun r => r.bitmap = 0#128) _ _ rfl fun r h c _ => (addKey_bitmap r c).trans h

/-! ## The rollover -/

theorem keyboardReport_eq {r : KeyReport} {p : Prop} [Decidable p] (h : r.rollover = true ↔ p) (i : Nat)
    (s : State) : keyboardReport i r s =
      if p then { s with log := s.log ++ [⟨.rollover i, s.now⟩] } else applyKeyboard i r s := by
  rw [keyboardReport, State.raise_eq]
  exact if_congr h rfl rfl

/-! ## The obligations -/

/-- Settles O49: each part of the report by what a bit and a slot add to it. -/
theorem keyboardFieldsByRule : Obligations.KeyboardFieldsByRule := by
  intro rd payload
  exact ⟨fun _ => keysFromFields_mods rd payload, fun _ => keysFromFields_bitmap rd payload,
    keysFromFields_rollover rd payload, keysFromFields_arr rd payload,
    keyboardReport_eq (keysFromFields_rollover rd payload)⟩

/-- Settles O50: as O49, with the modifier byte in place of the 1-bit fields; six slots cannot overflow the
array. -/
theorem bootKeyboardByRule : Obligations.BootKeyboardByRule := by
  intro payload
  simp only [← payloadByte_eq]
  exact ⟨fun _ => keysFromBoot_mods payload, keysFromBoot_bitmap payload, keysFromBoot_rollover payload,
    (keysFromBoot_arr payload).trans (arrayOf_of_length_le le_rfl),
    keyboardReport_eq (keysFromBoot_rollover payload)⟩

end Sys2Proof.Proofs
end

section
/-! Applying a keyboard report (R320): the usages that change, in their order, and the run of their
transitions. -/

namespace Sys2Proof.Proofs

open Sys2Proof Sys2Proof.Machine

/-! ## The usages held -/

theorem getLsbD_iff_lt_and {w : Nat} (v : BitVec w) (n : Nat) :
    v.getLsbD n = true ↔ n < w ∧ v.getLsbD n = true :=
  (and_iff_right_of_imp BitVec.lt_of_getLsbD).symm

theorem hidInstance_held_iff (d : HidInstance) (u : Byte) : d.held u = true ↔
    (u.toNat < 128 ∧ d.nkroBitmap.getLsbD u.toNat = true) ∨ (u ≠ 0x00#8 ∧ u ∈ d.bootKeyArray.toList) := by
  rw [← getLsbD_iff_lt_and]
  simp [HidInstance.held]

theorem keyReport_held_iff (r : KeyReport) (u : Byte) : r.held u = true ↔
    (u.toNat < 128 ∧ r.bitmap.getLsbD u.toNat = true) ∨ u ∈ r.arr := by
  rw [← getLsbD_iff_lt_and]
  simp [KeyReport.held]

/-! ## The usages that change, in order -/

theorem mem_allUsages (u : Byte) : u ∈ allUsages :=
  List.mem_map.mpr ⟨u.toNat, List.mem_range.mpr u.isLt, by simp⟩

theorem pairwise_allUsages : allUsages.Pairwise (fun a b => a.toNat < b.toNat) := by
  refine List.pairwise_map.mpr (List.pairwise_lt_range.imp_of_mem fun ha hb hab => ?_)
  rwa [BitVec.toNat_ofNat, BitVec.toNat_ofNat, Nat.mod_eq_of_lt (List.mem_range.mp ha),
    Nat.mod_eq_of_lt (List.mem_range.mp hb)]

section Changes

variable (d : HidInstance) (r : KeyReport)

/-- The bits of the modifier byte that change. -/
def changedBits : List Nat := (List.range 8).filter (fun n => d.modifierByte.getLsbD n != r.mods.getLsbD n)

/-- The usages of the modifiers that change. -/
def changedModifiers : List Byte := (changedBits d r).map (fun n => BitVec.ofNat 8 (0xE0 + n))

/-- The usages no longer reported. -/
def releasedUsages : List Byte := allUsages.filter (fun u => d.held u && !r.held u)

/-- The usages newly reported. -/
def pressedUsages : List Byte := allUsages.filter (fun u => r.held u && !d.held u)

theorem mem_changedBits {n : Nat} :
    n ∈ changedBits d r ↔ n < 8 ∧ d.modifierByte.getLsbD n ≠ r.mods.getLsbD n := by
  simp [changedBits]

theorem toNat_modifierUsage {n : Nat} (h : n < 8) : (BitVec.ofNat 8 (0xE0 + n)).toNat = 0xE0 + n := by
  rw [BitVec.toNat_ofNat]
  omega

theorem mem_changedModifiers {u : Byte} : u ∈ changedModifiers d r ↔
    ∃ n < 8, u.toNat = 0xE0 + n ∧ d.modifierByte.getLsbD n ≠ r.mods.getLsbD n := by
  simp only [changedModifiers, List.mem_map, mem_changedBits]
  constructor
  · rintro ⟨n, ⟨hn, hne⟩, rfl⟩
    exact ⟨n, hn, toNat_modifierUsage hn, hne⟩
  · rintro ⟨n, hn, hu, hne⟩
    exact ⟨n, ⟨hn, hne⟩, BitVec.eq_of_toNat_eq ((toNat_modifierUsage hn).trans hu.symm)⟩

theorem mem_releasedUsages {u : Byte} : u ∈ releasedUsages d r ↔ d.held u = true ∧ ¬ r.held u = true := by
  simp [releasedUsages, mem_allUsages]

theorem mem_pressedUsages {u : Byte} : u ∈ pressedUsages d r ↔ r.held u = true ∧ ¬ d.held u = true := by
  simp [pressedUsages, mem_allUsages]

theorem pairwise_changedModifiers : (changedModifiers d r).Pairwise (fun a b => a.toNat < b.toNat) := by
  refine List.pairwise_map.mpr ((List.pairwise_lt_range.filter _).imp_of_mem fun ha hb hab => ?_)
  rw [toNat_modifierUsage (List.mem_range.mp (List.mem_of_mem_filter ha)),
    toNat_modifierUsage (List.mem_range.mp (List.mem_of_mem_filter hb))]
  omega

/-- R320's transitions, the new value of a modifier read at its usage. -/
theorem keyChanges_eq : keyChanges d r =
    (changedModifiers d r).map (fun u => (u, r.mods.getLsbD (u.toNat - 0xE0)))
      ++ (releasedUsages d r).map (fun u => (u, false)) ++ (pressedUsages d r).map (fun u => (u, true)) := by
  have hmods : (changedBits d r).map (fun n => (BitVec.ofNat 8 (0xE0 + n), r.mods.getLsbD n))
      = (changedModifiers d r).map (fun u => (u, r.mods.getLsbD (u.toNat - 0xE0))) := by
    rw [changedModifiers, List.map_map]
    refine List.map_congr_left fun n hn => ?_
    rw [Function.comp_apply, toNat_modifierUsage ((mem_changedBits d r).mp hn).1, Nat.add_sub_cancel_left]
  rw [← hmods]
  rfl

end Changes

/-! ## Running the transitions -/

/-- The state after a list of transitions. -/
def transitions (cs : List (Byte × Bool)) (s : State) : State :=
  cs.foldl (fun s c => onKeyTransition c.1 c.2 s) s

theorem execAll_onKeyTransition (cs : List (Byte × Bool)) (s : State) :
    execAll (cs.map (fun c => .onKeyTransition c.1 c.2)) s = .next (transitions cs s) := by
  induction cs generalizing s with
  | nil => rfl
  | cons c cs ih => exact ih (onKeyTransition c.1 c.2 s)

theorem paddedArray_eq (arr : List Byte) :
    paddedArray arr = Vector.ofFn (fun j => arr[j.val]?.getD 0x00#8) := by
  simp only [paddedArray, List.getD_eq_getElem?_getD]

theorem applyKeyboard_eq (i : Nat) (r : KeyReport) (s : State) :
    let t := transitions (keyChanges (s.devAt i) r) s
    applyKeyboard i r s = { t with dev := t.dev.set i { s.devAt i with
      modifierByte := r.mods
      nkroBitmap := r.bitmap
      bootKeyArray := Vector.ofFn (fun j => r.arr[j.val]?.getD 0x00#8) } } := by
  rw [← paddedArray_eq]
  rfl

/-! ## The obligation -/

/-- Settles O51: the three lists are those of `keyChanges`, whose transitions `applyKeyboard` runs. -/
theorem keyChangesByRule : Obligations.KeyChangesByRule := by
  intro s i d r hd _ _
  obtain rfl := devAt_of_getElem? hd
  simp only [← hidInstance_held_iff, ← keyReport_held_iff]
  refine ⟨changedModifiers (s.devAt i) r, releasedUsages (s.devAt i) r, pressedUsages (s.devAt i) r,
    fun _ => mem_changedModifiers _ _, fun _ => mem_releasedUsages _ _, fun _ => mem_pressedUsages _ _, ?sorted,
    transitions (keyChanges (s.devAt i) r) s, ?run, applyKeyboard_eq i r s⟩
  case sorted =>
    simp only [List.forall_mem_cons]
    exact ⟨pairwise_changedModifiers _ r, pairwise_allUsages.filter _, pairwise_allUsages.filter _,
      List.forall_mem_nil _⟩
  case run =>
    rw [← execAll_onKeyTransition, keyChanges_eq]
    simp only [List.map_append, List.map_map, Function.comp_def]

end Sys2Proof.Proofs
end

section
/-! Mouse reports from a descriptor (R321): the buttons that any field sets, and the axes that the last field
of each usage gives. -/

namespace Sys2Proof.Proofs

open Sys2Proof Sys2Proof.Machine

/-- Where each step overwrites g by v of an element that satisfies p, and keeps it otherwise, the last such
element gives the fold's g. -/
theorem foldl_lastWins {α β γ : Type} {f : β → α → β} {g : β → γ} {p : α → Prop} [DecidablePred p]
    {v : α → γ} (hstep : ∀ b a, g (f b a) = if p a then v a else g b) (l : List α) (b : β) :
    g (l.foldl f b) = ((l.filter (fun a => p a)).getLast?.map v).getD (g b) := by
  induction l using List.reverseRecOn with
  | nil => rfl
  | append_singleton l a ih =>
    rw [List.foldl_concat, hstep, List.filter_append, List.filter_singleton]
    by_cases ha : p a
    · simp [ha]
    · simpa [ha] using ih

/-! ## One field -/

/-- The field holds a button 1 to 5 that is down. -/
abbrev SetsButton (payload : List Byte) (f : Field) : Prop :=
  f.itemKind = .input ∧ (f.usagePage = 0x09#16 ∧ 1 ≤ f.usage.toNat ∧ f.usage.toNat ≤ 5)
    ∧ extractField f payload ≠ 0

/-- The field holds usage u of the Generic Desktop page. -/
abbrev OnAxis (u : Usage) (f : Field) : Prop :=
  f.itemKind = .input ∧ f.usagePage = 0x01#16 ∧ f.usage = u

/-- The tests of R321 exclude each other, so each part of the report has its own. -/
theorem mouse_addField_eq (payload : List Byte) (r : MouseReport) (f : Field) :
    r.addField payload f = {
      buttons := if SetsButton payload f then setBit r.buttons (f.usage.toNat - 1) true else r.buttons
      dx := if OnAxis 0x30#16 f then extractField f payload else r.dx
      dy := if OnAxis 0x31#16 f then extractField f payload else r.dy
      wheel := if OnAxis 0x38#16 f then extractField f payload else r.wheel } := by
  unfold MouseReport.addField SetsButton OnAxis
  by_cases hin : f.itemKind = .input
  · by_cases hpage : f.usagePage = 0x01#16
    · have hother : (0x01#16 : Usage) ≠ 0x09#16 := by decide
      simp only [hin, hpage, hother, true_and, false_and, if_true, if_false]
      by_cases hx : f.usage = 0x30#16
      · simp [hx]
      by_cases hy : f.usage = 0x31#16
      · simp [hy]
      by_cases hwheel : f.usage = 0x38#16 <;> simp [hx, hy, hwheel]
    · simp only [hin, hpage, true_and, false_and, if_true, if_false, ite_and (P := _ ∧ _)]
      split_ifs <;> rfl
  · simp only [hin, false_and, if_false]

/-! ## All fields -/

section Parts

variable (rd : Report) (payload : List Byte)

theorem movementFromFields_buttons {n : Nat} (hn : n < 8) :
    (movementFromFields rd payload).buttons.getLsbD n = true ↔
      ∃ f ∈ rd.fields, SetsButton payload f ∧ f.usage.toNat - 1 = n := by
  have hstep : ∀ r f, (MouseReport.addField payload r f).buttons.getLsbD n = true ↔
      r.buttons.getLsbD n = true ∨ SetsButton payload f ∧ f.usage.toNat - 1 = n := by
    intro r f
    rw [mouse_addField_eq]
    dsimp only
    split_ifs with hset
    · rw [getLsbD_setBit_true _ _ hn, and_iff_right hset]
    · simp only [hset, false_and, or_false]
  rw [movementFromFields, foldl_iff (P := fun r : MouseReport => r.buttons.getLsbD n = true) hstep]
  simp

/-- The value of the last Input field of usage u of the Generic Desktop page, 0 for none. -/
def axisValue (u : Usage) : Int :=
  ((((rd.fields.filter (fun f => f.itemKind = .input)).filter
    (fun f => f.usagePage = 0x01#16 ∧ f.usage = u)).getLast?).map (fun f => extractField f payload)).getD 0

/-- A part of the report that exactly the fields of one axis overwrite ends as that axis' value. -/
theorem movementFromFields_axis {g : MouseReport → Int} {u : Usage} (hstart : g ⟨0x00#8, 0, 0, 0⟩ = 0)
    (hstep : ∀ r f, g (MouseReport.addField payload r f) = if OnAxis u f then extractField f payload else g r) :
    g (movementFromFields rd payload) = axisValue rd payload u := by
  have hlast : axisValue rd payload u = (((rd.fields.filter (fun f => OnAxis u f)).getLast?).map
      (fun f => extractField f payload)).getD 0 := by
    rw [axisValue, List.filter_filter]
    simp only [OnAxis, Bool.decide_and, Bool.and_comm]
  rw [hlast, movementFromFields, foldl_lastWins hstep, hstart]

end Parts

/-! ## The obligation -/

theorem exec_onMovement_mouseReport (r : MouseReport) (s : State) :
    exec (.onMovement r.buttons r.dx r.dy r.wheel) s = .next (mouseReport r s) := rfl

/-- Settles O52: the buttons as any field's, the axes as the last field's. -/
theorem mouseFieldsByRule : Obligations.MouseFieldsByRule := by
  intro rd payload s fs axis
  refine ⟨(movementFromFields rd payload).buttons, fun n hn => ?buttons, ?axes⟩
  case buttons =>
    rw [movementFromFields_buttons rd payload hn]
    simp only [fs, List.mem_filter, decide_eq_true_eq]
    constructor
    · rintro ⟨f, hf, ⟨hin, ⟨hpage, hlow, hhigh⟩, hval⟩, rfl⟩
      exact ⟨by omega, f, ⟨hf, hin⟩, hpage, by omega, hval⟩
    · rintro ⟨hn5, f, ⟨hf, hin⟩, hpage, husage, hval⟩
      exact ⟨f, hf, ⟨hin, ⟨hpage, by omega, by omega⟩, hval⟩, by omega⟩
  case axes =>
    have hdx : (movementFromFields rd payload).dx = axis 0x30#16 :=
      movementFromFields_axis rd payload (g := MouseReport.dx) rfl fun r f => by rw [mouse_addField_eq]
    have hdy : (movementFromFields rd payload).dy = axis 0x31#16 :=
      movementFromFields_axis rd payload (g := MouseReport.dy) rfl fun r f => by rw [mouse_addField_eq]
    have hwheel : (movementFromFields rd payload).wheel = axis 0x38#16 :=
      movementFromFields_axis rd payload (g := MouseReport.wheel) rfl fun r f => by rw [mouse_addField_eq]
    rw [← hdx, ← hdy, ← hwheel]
    exact exec_onMovement_mouseReport _ s

end Sys2Proof.Proofs
end

section
/-! The keyboard's host commands (R365 to R380): each callback as one ACK around one write of the keyboard
record, and what the host byte then leaves. -/

namespace Sys2Proof.Proofs

open Sys2Proof Sys2Proof.Machine

/-! ## A host byte around a callback (R235) -/

theorem setLastRx_setK (s : State) (p : Port) (b : Byte) (k : Keyboard) :
    (s.setK k).setLastRx p b = (s.setLastRx p b).setK k := by
  cases p <;> rfl

theorem setK_setK (s : State) (k k' : Keyboard) : (s.setK k).setK k' = s.setK k' := rfl

theorem raise_flush (s : State) (p : Port) (c : Condition) : (s.flush p).raise c = (s.raise c).flush p := by
  cases p <;> rfl

theorem raise_replied (s : State) (p : Port) (b : Byte) (pk : List Byte) (c : Condition) :
    (s.raise c).replied p b pk = { s.replied p b pk with log := s.log ++ [⟨c, s.now⟩] } := by
  cases p <;> rfl

/-- The ACK is a packet of legal length, so after the flush it is the whole queue. -/
theorem takeHostByte_ackKbd {s : State} (hcap : 0 < s.cfg.queueCap) (b : Byte) :
    takeHostByte .kbd b ackKbd s = s.replied .kbd b [0xFA#8] :=
  takeHostByte_reply .kbd b [0xFA#8] s hcap (by simp) (by decide)

/-- A callback that acknowledges and writes the keyboard record leaves the ACK and that record. -/
theorem takeHostByte_ackKbd_setK {callback : State → State} {s : State} {k : Keyboard}
    (hcap : 0 < s.cfg.queueCap) (b : Byte) (h : callback (s.flush .kbd) = ackKbd ((s.flush .kbd).setK k)) :
    takeHostByte .kbd b callback s = { s.replied .kbd b [0xFA#8] with k := k } := by
  calc takeHostByte .kbd b callback s
      = (takeHostByte .kbd b ackKbd s).setK k := by
        rw [takeHostByte, h, ackKbd, enqueue_setK, setLastRx_setK, takeHostByte, ackKbd]
    _ = { s.replied .kbd b [0xFA#8] with k := k } := by rw [takeHostByte_ackKbd hcap]; rfl

/-! ## The instructions -/

theorem exec_kbdSetLeds (s : State) : exec .kbdSetLeds s = .next (takeHostByte .kbd 0xED#8 ackKbd s) := rfl

theorem exec_kbdEcho (s : State) :
    exec .kbdEcho s = .next (takeHostByte .kbd 0xEE#8 (enqueue .kbd [0xEE#8]) s) := rfl

theorem exec_kbdScanSet (s : State) : exec .kbdScanSet s = .next (takeHostByte .kbd 0xF0#8 ackKbd s) := rfl

theorem exec_kbdSetParam (b : Byte) (s : State) :
    exec (.kbdSetParam b) s = .next (takeHostByte .kbd b ackKbd s) := rfl

theorem exec_kbdIdentify (s : State) :
    exec .kbdIdentify s = .next (takeHostByte .kbd 0xF2#8 (enqueue .kbd [0xFA#8, 0xAB#8, 0x83#8]) s) := rfl

theorem exec_kbdSetTypematic (s : State) :
    exec .kbdSetTypematic s = .next (takeHostByte .kbd 0xF3#8 ackKbd s) := rfl

theorem exec_kbdOther (b : Byte) (s : State) :
    exec (.kbdOther b) s = .next (takeHostByte .kbd b (onKbdOther b) s) := rfl

theorem exec_kbdLedParam (b : Byte) (s : State) :
    exec (.kbdLedParam b) s = .next (takeHostByte .kbd b (onLedParam b) s) := rfl

theorem exec_kbdTypematicParam (b : Byte) (s : State) :
    exec (.kbdTypematicParam b) s = .next (takeHostByte .kbd b (onTypematicParam b) s) := rfl

theorem exec_kbdEnable (s : State) : exec .kbdEnable s = .next (takeHostByte .kbd 0xF4#8 onKbdEnable s) := rfl

theorem exec_kbdDisable (s : State) :
    exec .kbdDisable s = .next (takeHostByte .kbd 0xF5#8 onKbdDisable s) := rfl

theorem exec_kbdSetDefaults (s : State) :
    exec .kbdSetDefaults s = .next (takeHostByte .kbd 0xF6#8 onKbdSetDefaults s) := rfl

theorem exec_kbdReset (s : State) : exec .kbdReset s = .next (takeHostByte .kbd 0xFF#8 onKbdReset s) := rfl

/-! ## The callbacks -/

theorem onLedParam_eq (b : Byte) (s : State) : onLedParam b s = ackKbd (s.setK { s.k with
    ledByte := s.cfg.ledTable.get (ledIndex b), ledSyncPending := true }) := rfl

theorem onTypematicParam_eq (b : Byte) (s : State) : onTypematicParam b s = ackKbd (s.setK { s.k with
    intervalUs := s.cfg.typematicIntervalUs.get (rateIndex b)
    delayMs := s.cfg.typematicDelayMs.get (delayIndex b) }) := rfl

theorem onKbdEnable_eq (s : State) : onKbdEnable s = ackKbd (s.setK { s.k with enabled := true }) := rfl

theorem onKbdSetDefaults_eq (s : State) : onKbdSetDefaults s = ackKbd (s.setK { s.k with
    delayMs := s.cfg.typematicDelayMs.get 1, intervalUs := s.cfg.typematicIntervalUs.get 0x0B }) := rfl

theorem onKbdDisable_eq (s : State) : onKbdDisable s = ackKbd (s.setK { s.k with
    enabled := false, repeatKey := 0x00#8, repeatTimer := none
    delayMs := s.cfg.typematicDelayMs.get 1, intervalUs := s.cfg.typematicIntervalUs.get 0x0B }) := rfl

/-- Reset enqueues its ACK first; its writes of the keyboard record do not see the queue. -/
theorem onKbdReset_eq (s : State) : onKbdReset s = ackKbd (s.setK { s.k with
    enabled := false, repeatKey := 0x00#8, repeatTimer := none
    delayMs := s.cfg.typematicDelayMs.get 1, intervalUs := s.cfg.typematicIntervalUs.get 0x0B
    ledByte := 0x07#8, ledSyncPending := true
    resetPending := insertDeadline (s.now + 500000) s.k.resetPending }) := by
  simp only [ackKbd, enqueue_setK, onKbdReset, scheduleKbdReset, setLeds, restoreDefaults, cancelRepeat,
    setScanning, setK_setK, State.setK_k, State.setK_cfg, State.setK_now, enqueue_k, enqueue_cfg, enqueue_now,
    kbdResetDelayMs, Nat.reduceMul]

/-! ## Indices of parameter bytes (R146, R147) -/

theorem ledIndex_eq {b : Byte} {i : Fin 8} (h : i.val = (b &&& 0x07#8).toNat) : ledIndex b = i := by
  rw [BitVec.toNat_and] at h
  exact Fin.ext ((Nat.and_two_pow_sub_one_eq_mod b.toNat 3).symm.trans h.symm)

theorem rateIndex_eq {b : Byte} {r : Fin 32} (h : r.val = (b &&& 0x1F#8).toNat) : rateIndex b = r := by
  rw [BitVec.toNat_and] at h
  exact Fin.ext ((Nat.and_two_pow_sub_one_eq_mod b.toNat 5).symm.trans h.symm)

theorem delayIndex_eq {b : Byte} {d : Fin 4} (h : d.val = ((b >>> 5) &&& 0x03#8).toNat) :
    delayIndex b = d := by
  rw [BitVec.toNat_and, BitVec.toNat_ushiftRight, Nat.shiftRight_eq_div_pow] at h
  exact Fin.ext ((Nat.and_two_pow_sub_one_eq_mod (b.toNat / 2 ^ 5) 2).symm.trans h.symm)

/-! ## The obligations -/

/-- Settles O10: each callback is one enqueue; an unrecognized byte logs first. -/
theorem kbdReplyOnlyCommands : Obligations.KbdReplyOnlyCommands := by
  refine ⟨fun s hcap => ⟨?setLeds, ?echo, ?scanSet, fun b => ?setParam, ?identify, ?setTypematic⟩,
    fun s b hcap => ?other⟩
  case setLeds => rw [exec_kbdSetLeds, takeHostByte_ackKbd hcap]
  case echo => rw [exec_kbdEcho, takeHostByte_reply .kbd _ _ s hcap (by simp) (by decide)]
  case scanSet => rw [exec_kbdScanSet, takeHostByte_ackKbd hcap]
  case setParam => rw [exec_kbdSetParam, takeHostByte_ackKbd hcap]
  case identify => rw [exec_kbdIdentify, takeHostByte_reply .kbd _ _ s hcap (by simp) (by decide)]
  case setTypematic => rw [exec_kbdSetTypematic, takeHostByte_ackKbd hcap]
  case other =>
    have hlog : takeHostByte .kbd b (onKbdOther b) s
        = takeHostByte .kbd b ackKbd (s.raise (.unknownCommand .kbd b)) := by
      rw [takeHostByte, onKbdOther, raise_flush, takeHostByte]
    rw [exec_kbdOther, hlog, takeHostByte_ackKbd (s := s.raise _) hcap, raise_replied]

/-- Settles O11: the parameter's bits are the table index. -/
theorem kbdParametersByRule : Obligations.KbdParametersByRule := by
  refine ⟨fun s b i hcap hi => ?_, fun s b r d hcap hr hd => ?_⟩
  · rw [exec_kbdLedParam, takeHostByte_ackKbd_setK hcap b (onLedParam_eq b _), ledIndex_eq hi,
      State.flush_k, State.flush_cfg]
  · rw [exec_kbdTypematicParam, takeHostByte_ackKbd_setK hcap b (onTypematicParam_eq b _), rateIndex_eq hr,
      delayIndex_eq hd, State.flush_k, State.flush_cfg]

/-- Settles O12, by the three callbacks. -/
theorem kbdEnableDisableDefaults : Obligations.KbdEnableDisableDefaults := by
  refine fun s hcap => ⟨?enable, ?disable, ?setDefaults⟩
  case enable => rw [exec_kbdEnable, takeHostByte_ackKbd_setK hcap _ (onKbdEnable_eq _), State.flush_k]
  case disable =>
    rw [exec_kbdDisable, takeHostByte_ackKbd_setK hcap _ (onKbdDisable_eq _), State.flush_k, State.flush_cfg]
  case setDefaults =>
    rw [exec_kbdSetDefaults, takeHostByte_ackKbd_setK hcap _ (onKbdSetDefaults_eq _), State.flush_k,
      State.flush_cfg]

/-- Settles O13: the new completion is inserted in rising order, which is a permutation of the old ones and
it. -/
theorem kbdResetByRule : Obligations.KbdResetByRule := by
  refine fun s hcap => ⟨insertDeadline (s.now + 500000) s.k.resetPending, insertDeadline_perm _ _, ?_⟩
  rw [exec_kbdReset, takeHostByte_ackKbd_setK hcap _ (onKbdReset_eq _), State.flush_k, State.flush_cfg,
    State.flush_now]

end Sys2Proof.Proofs
end

section
/-! Key transitions and the repeat (R350 to R356): which case of R350 a usage takes, its table entry, and what
each case does to the keyboard record and the queue. -/

namespace Sys2Proof.Proofs

open Sys2Proof Sys2Proof.Machine

/-! ## Modifiers (R38, R10) -/

theorem getLsbD_setBit {w : Nat} (v : BitVec w) (n : Nat) (b : Bool) {k : Nat} (hk : k < w) :
    (setBit v n b).getLsbD k = if k = n then b else v.getLsbD k := by
  cases b with
  | true =>
    rw [Bool.eq_iff_iff, getLsbD_setBit_true v n hk]
    split_ifs with h
    · simp [h]
    · simp [Ne.symm h]
  | false =>
    rw [setBit, if_neg Bool.false_ne_true, BitVec.getLsbD_and, BitVec.getLsbD_not, ← BitVec.twoPow_eq,
      BitVec.getLsbD_twoPow]
    split_ifs with h
    · simp [← h, hk]
    · simp [hk, Ne.symm h]

/-- A byte that has bit n given and the other bits of v is v with that bit set. -/
theorem setBit_eq {v mods : Byte} {n : Nat} {b : Bool}
    (h : ∀ i < 8, mods.getLsbD i = if i = n then b else v.getLsbD i) : setBit v n b = mods :=
  BitVec.eq_of_getLsbD_eq fun i hi => (getLsbD_setBit v n b hi).trans (h i hi).symm

theorem modIndex_eq {u : Byte} {n : Fin 8} (h : u.toNat = 0xE0 + n.val) : modIndex u = n :=
  Fin.ext (by simp only [modIndex]; omega)

theorem isModifier_of_toNat {u : Byte} {n : Fin 8} (h : u.toNat = 0xE0 + n.val) : isModifier u = true :=
  (isModifier_iff u).mpr (by omega)

/-! ## Sequences (R480) -/

theorem keyEntry_of_modifier (c : Params) {u : Byte} {n : Fin 8} (h : u.toNat = 0xE0 + n.val) :
    keyEntry c u = some (c.modTable.get n) := by
  rw [keyEntry, if_pos (isModifier_of_toNat h), modIndex_eq h]

theorem keyEntry_of_key (c : Params) {u : Byte} (h : ¬ (0xE0 ≤ u.toNat ∧ u.toNat ≤ 0xE7)) :
    keyEntry c u = c.sc2Table.lookup u := by
  rw [keyEntry, if_neg (mt (isModifier_iff u).mp h)]

section Entry

variable {c : Params} {u : Byte} {e : KeyCode} (h : keyEntry c u = some e)
include h

theorem makeSeq_of_entry : makeSeq c u = if e.ext then [0xE0#8, e.code] else [e.code] := by
  rw [makeSeq, h]; rfl

theorem breakSeq_of_entry : breakSeq c u = if e.ext then [0xE0#8, 0xF0#8, e.code] else [0xF0#8, e.code] := by
  rw [breakSeq, h]; rfl

end Entry

/-! ## The repeat around an enqueue (R37, R521) -/

theorem firstRepeat_enqueue (p : Port) (b : List Byte) (s : State) :
    firstRepeat (enqueue p b s) = s.now + s.k.delayMs * 1000 := by
  rw [firstRepeat, enqueue_now, enqueue_k]

theorem armRepeat_enqueue (u : Byte) (d : Nat) (p : Port) (b : List Byte) (s : State) :
    armRepeat u d (enqueue p b s)
      = (enqueue p b s).setK { s.k with repeatKey := u, repeatTimer := some d } := by
  rw [armRepeat, enqueue_k]

theorem cancelRepeat_enqueue (p : Port) (b : List Byte) (s : State) :
    cancelRepeat (enqueue p b s)
      = (enqueue p b s).setK { s.k with repeatKey := 0x00#8, repeatTimer := none } := by
  rw [cancelRepeat, enqueue_k]

/-! ## Keys of SC2_TABLE (R353) -/

theorem keyTransition_of_disabled {s : State} (h : s.k.enabled = false) (u : Byte) (pressed : Bool) :
    keyTransition u pressed s = s := by
  simp [keyTransition, h]

section Enabled

variable {s : State} (h : s.k.enabled = true)
include h

theorem keyTransition_press (u : Byte) : keyTransition u true s = (enqueue .kbd (makeSeq s.cfg u) s).setK
    { s.k with repeatKey := u, repeatTimer := some (s.now + s.k.delayMs * 1000) } := by
  rw [keyTransition, if_pos h, if_pos rfl, armRepeat_enqueue, firstRepeat_enqueue]

theorem keyTransition_release (u : Byte) : keyTransition u false s =
    if s.k.repeatKey = u then
      (enqueue .kbd (breakSeq s.cfg u) s).setK { s.k with repeatKey := 0x00#8, repeatTimer := none }
    else enqueue .kbd (breakSeq s.cfg u) s := by
  simp only [keyTransition, if_pos h, Bool.false_eq_true, if_false, cancelRepeat_enqueue, enqueue_k]

end Enabled

/-! ## Modifiers (R351) -/

/-- The keyboard record after a modifier's transition while scanning is enabled: its bit, and the repeat if
MODIFIER_TYPEMATIC gives it one. -/
def modifierKeyboard (s : State) (u : Byte) (pressed : Bool) (mods : Byte) : Keyboard :=
  if s.cfg.modifierTypematic = false then { s.k with mods := mods }
  else if pressed then
    { s.k with mods := mods, repeatKey := u, repeatTimer := some (s.now + s.k.delayMs * 1000) }
  else if s.k.repeatKey = u then { s.k with mods := mods, repeatKey := 0x00#8, repeatTimer := none }
  else { s.k with mods := mods }

theorem modifierTransition_of_disabled {s : State} (h : s.k.enabled = false) (u : Byte) (pressed : Bool) :
    modifierTransition u pressed s = s.setK { s.k with mods := setBit s.k.mods (modIndex u) pressed } := by
  simp [modifierTransition, h]

theorem modifierTransition_of_enabled {s : State} (h : s.k.enabled = true) (u : Byte) (pressed : Bool) :
    modifierTransition u pressed s =
      (enqueue .kbd (if pressed then makeSeq s.cfg u else breakSeq s.cfg u) s).setK
        (modifierKeyboard s u pressed (setBit s.k.mods (modIndex u) pressed)) := by
  simp only [modifierTransition, State.setK_k, State.setK_cfg, if_pos h, armRepeat_enqueue,
    cancelRepeat_enqueue, firstRepeat_enqueue, State.setK_now, enqueue_k, enqueue_cfg, modifierKeyboard]
  cases hm : s.cfg.modifierTypematic with
  | false => simp [enqueue_setK]
  | true =>
    cases pressed with
    | true => simp [enqueue_setK, setK_setK]
    | false =>
      by_cases hk : s.k.repeatKey = u
      · simp [hk, enqueue_setK, setK_setK]
      · simp [hk, enqueue_setK]

/-! ## Pause (R352) -/

theorem pauseTransition_release (s : State) : pauseTransition false s = s := rfl

theorem pauseTransition_of_disabled {s : State} (h : s.k.enabled = false) (pressed : Bool) :
    pauseTransition pressed s = s := by
  simp [pauseTransition, h]

theorem pauseTransition_press {s : State} (h : s.k.enabled = true) : pauseTransition true s =
    if s.k.mods.getLsbD 0 = true ∨ s.k.mods.getLsbD 4 = true then enqueue .kbd breakKeySeq s
    else enqueue .kbd pauseSeq s := by
  simp only [pauseTransition, h, Bool.and_self, if_true, Bool.or_eq_true]

/-! ## The cases of R350 -/

theorem exec_onKeyTransition (u : Byte) (pressed : Bool) (s : State) :
    exec (.onKeyTransition u pressed) s = .next (onKeyTransition u pressed s) := rfl

theorem onKeyTransition_of_modifier {u : Byte} (h : isModifier u = true) (pressed : Bool) (s : State) :
    onKeyTransition u pressed s = modifierTransition u pressed s := by
  rw [onKeyTransition, if_pos h]

theorem onKeyTransition_pause (pressed : Bool) (s : State) :
    onKeyTransition 0x48#8 pressed s = pauseTransition pressed s := rfl

section Plain

variable {u : Byte} (hmod : ¬ (0xE0 ≤ u.toNat ∧ u.toNat ≤ 0xE7)) (hpause : u ≠ 0x48#8) {s : State}
include hmod hpause

theorem onKeyTransition_of_key {e : KeyCode} (h : s.cfg.sc2Table.lookup u = some e) (pressed : Bool) :
    onKeyTransition u pressed s = keyTransition u pressed s := by
  rw [onKeyTransition, if_neg (mt (isModifier_iff u).mp hmod), if_neg hpause, h, if_neg (by simp)]

theorem onKeyTransition_of_unsupported (h : s.cfg.sc2Table.lookup u = none) (pressed : Bool) :
    onKeyTransition u pressed s = s.raise (.keyUnsupported u) := by
  rw [onKeyTransition, if_neg (mt (isModifier_iff u).mp hmod), if_neg hpause, h, if_pos (by simp)]

end Plain

/-! ## The repeat (R356) -/

theorem exec_kbdRepeatFire_of_due {s : State} {d : Nat} (ht : s.k.repeatTimer = some d) (hd : d ≤ s.now) :
    exec .kbdRepeatFire s = .next
      ((if s.k.enabled then enqueue .kbd (makeSeq s.cfg s.k.repeatKey) s else s).setK
        { s.k with repeatTimer := some (d + s.k.intervalUs) }) := by
  have hk : (if s.k.enabled then enqueue .kbd (makeSeq s.cfg s.k.repeatKey) s else s).k = s.k := by
    split_ifs
    · exact enqueue_k ..
    · rfl
  show execKbdRepeatFire s = _
  simp only [execKbdRepeatFire, ht, if_neg (Nat.not_lt.mpr hd), hk]

/-! ## The obligations -/

/-- Settles O24, by the cases of R353. -/
theorem keyTransitionByRule : Obligations.KeyTransitionByRule := by
  intro s u e hmod hpause he
  have hentry : keyEntry s.cfg u = some e := (keyEntry_of_key s.cfg hmod).trans he
  simp only [exec_onKeyTransition, onKeyTransition_of_key hmod hpause he]
  refine ⟨fun hoff pressed => ?disabled, fun hon => ?press, fun hon hkey => ?releaseRepeating,
    fun hon hkey => ?releaseOther⟩
  case disabled => rw [keyTransition_of_disabled hoff]
  case press =>
    rw [keyTransition_press hon, makeSeq_of_entry hentry]
    rfl
  case releaseRepeating =>
    rw [keyTransition_release hon, if_pos hkey, breakSeq_of_entry hentry]
    rfl
  case releaseOther => rw [keyTransition_release hon, if_neg hkey, breakSeq_of_entry hentry]

/-- Settles O25: the bits given for `mods` are those of `setBit`, and the usage's entry is that of
MOD_TABLE. -/
theorem modifierTransitionByRule : Obligations.ModifierTransitionByRule := by
  intro s u n pressed mods hu hmods e seq
  have hentry : keyEntry s.cfg u = some e := keyEntry_of_modifier s.cfg hu
  have hseq : (if pressed then makeSeq s.cfg u else breakSeq s.cfg u) = seq := by
    rw [makeSeq_of_entry hentry, breakSeq_of_entry hentry]
  have hbit : setBit s.k.mods (modIndex u) pressed = mods := by rw [modIndex_eq hu, setBit_eq hmods]
  rw [exec_onKeyTransition, onKeyTransition_of_modifier (isModifier_of_toNat hu)]
  by_cases hoff : s.k.enabled = false
  · rw [if_pos hoff, modifierTransition_of_disabled hoff, hbit]
    rfl
  · rw [if_neg hoff, modifierTransition_of_enabled (by simpa using hoff), hbit, hseq]
    rfl

/-- Settles O26, by the cases of R352 and the last case of R350. -/
theorem pauseAndUnsupportedKeys : Obligations.PauseAndUnsupportedKeys := by
  refine ⟨fun s => ?pause, fun s u pressed hmod hpause hnone => ?unsupported⟩
  case pause =>
    simp only [exec_onKeyTransition, onKeyTransition_pause]
    refine ⟨?release, fun hoff => ?disabled, fun hon hctrl => ?withCtrl, fun hon h0 h4 => ?plain⟩
    case release => rw [pauseTransition_release]
    case disabled => rw [pauseTransition_of_disabled hoff]
    case withCtrl => rw [pauseTransition_press hon, if_pos hctrl, breakKeySeq]
    case plain => rw [pauseTransition_press hon, if_neg (by rw [h0, h4]; simp), pauseSeq]
  case unsupported =>
    rw [exec_onKeyTransition, onKeyTransition_of_unsupported hmod hpause hnone, State.raise_eq]

/-- Settles O27: the repeating key's entry is that of its table. -/
theorem repeatFireByRule : Obligations.RepeatFireByRule := by
  intro s d e ht hd hkey
  have hentry : keyEntry s.cfg s.k.repeatKey = some e := by
    obtain ⟨hmod, he⟩ | ⟨n, hn, rfl⟩ := hkey
    · exact (keyEntry_of_key s.cfg hmod).trans he
    · exact keyEntry_of_modifier s.cfg hn
  rw [exec_kbdRepeatFire_of_due ht hd, makeSeq_of_entry hentry]
  rfl

end Sys2Proof.Proofs
end

section
/-! The mouse's host commands (R421 to R430): each callback as one ACK around one write of the mouse record,
and what the host byte then leaves. -/

namespace Sys2Proof.Proofs

open Sys2Proof Sys2Proof.Machine

/-! ## A host byte around a callback (R235) -/

theorem setLastRx_setM (s : State) (p : Port) (b : Byte) (m : Mouse) :
    (s.setM m).setLastRx p b = (s.setLastRx p b).setM m := by
  cases p <;> rfl

theorem setM_setM (s : State) (m m' : Mouse) : (s.setM m).setM m' = s.setM m' := rfl

/-- The ACK is a packet of legal length, so after the flush it is the whole queue. -/
theorem takeHostByte_ackMouse {s : State} (hcap : 0 < s.cfg.queueCap) (b : Byte) :
    takeHostByte .mouse b ackMouse s = s.replied .mouse b [0xFA#8] :=
  takeHostByte_reply .mouse b [0xFA#8] s hcap (by simp) (by decide)

/-- A callback that acknowledges and writes the mouse record leaves the ACK and that record. -/
theorem takeHostByte_ackMouse_setM {callback : State → State} {s : State} {m : Mouse}
    (hcap : 0 < s.cfg.queueCap) (b : Byte)
    (h : callback (s.flush .mouse) = ackMouse ((s.flush .mouse).setM m)) :
    takeHostByte .mouse b callback s = { s.replied .mouse b [0xFA#8] with m := m } := by
  calc takeHostByte .mouse b callback s
      = (takeHostByte .mouse b ackMouse s).setM m := by
        rw [takeHostByte, h, ackMouse, enqueue_setM, setLastRx_setM, takeHostByte, ackMouse]
    _ = { s.replied .mouse b [0xFA#8] with m := m } := by rw [takeHostByte_ackMouse hcap]; rfl

/-! ## The instructions -/

theorem exec_mouseStatus (s : State) :
    exec .mouseStatus s
      = .next (takeHostByte .mouse 0xE9#8 (enqueue .mouse s.cfg.mouseStatusReply.toList) s) := by
  show execMouseStatus s = _
  rw [execMouseStatus, takeHostByte, takeHostByte, onStatus, State.flush_cfg]

theorem exec_mouseReadData (s : State) :
    exec .mouseReadData s = .next (takeHostByte .mouse 0xEB#8 onReadData s) := rfl

theorem exec_mouseGetId (s : State) :
    exec .mouseGetId s
      = .next (takeHostByte .mouse 0xF2#8 (enqueue .mouse [0xFA#8, levelId s.m.level]) s) := by
  show execMouseGetId s = _
  rw [execMouseGetId, takeHostByte, takeHostByte, onGetId, State.flush_m]

theorem exec_mouseSetRate (s : State) :
    exec .mouseSetRate s = .next (takeHostByte .mouse 0xF3#8 ackMouse s) := rfl

theorem exec_mouseRateParam (b : Byte) (s : State) :
    exec (.mouseRateParam b) s = .next (takeHostByte .mouse b (onRateParam b) s) := rfl

theorem exec_mouseEnable (s : State) :
    exec .mouseEnable s = .next (takeHostByte .mouse 0xF4#8 onMouseEnable s) := rfl

theorem exec_mouseDisable (s : State) :
    exec .mouseDisable s = .next (takeHostByte .mouse 0xF5#8 onMouseDisable s) := rfl

theorem exec_mouseSetDefaults (s : State) :
    exec .mouseSetDefaults s = .next (takeHostByte .mouse 0xF6#8 onMouseSetDefaults s) := rfl

/-! ## The callbacks -/

theorem onReadData_eq (s : State) : onReadData s = ackMouse (s.setM { s.m with wasMoving := true }) := rfl

theorem onRateParam_eq (b : Byte) (s : State) : onRateParam b s = ackMouse (s.setM { s.m with
    magic := (s.m.magic <<< 8) ||| b.setWidth 24
    rate := if b ≠ 0x00#8 then b else s.m.rate
    level := upgradedLevel s.m.level ((s.m.magic <<< 8) ||| b.setWidth 24) }) := rfl

theorem onMouseEnable_eq (s : State) : onMouseEnable s = ackMouse (s.setM { s.m with
    streaming := true, emitTimer := some (s.now + 1000000 / s.m.rate.toNat) }) := rfl

theorem onMouseDisable_eq (s : State) : onMouseDisable s = ackMouse (s.setM { s.m with
    streaming := false, emitTimer := none }) := rfl

theorem onMouseSetDefaults_eq (s : State) :
    onMouseSetDefaults s = ackMouse (s.setM { s.m with rate := 100#8 }) := rfl

/-! ## The level (R44, R423, R425) -/

theorem levelId_eq {l : Level} {id : Byte}
    (h : (l, id) ∈ [(Level.standard, 0x00#8), (Level.intelliMouse, 0x03#8), (Level.explorer, 0x04#8)]) :
    levelId l = id := by
  simp only [List.mem_cons, List.not_mem_nil, or_false, Prod.mk.injEq] at h
  obtain ⟨rfl, rfl⟩ | ⟨rfl, rfl⟩ | ⟨rfl, rfl⟩ := h <;> rfl

theorem upgradedLevel_eq (l : Level) (magic : BitVec 24) : upgradedLevel l magic =
    if l = .standard ∧ magic = 0xC86450#24 then .intelliMouse
    else if l = .intelliMouse ∧ magic = 0xC8C850#24 then .explorer
    else l := by
  cases l <;> simp [upgradedLevel]

/-- Shifting a byte in moves the accumulator up by 256 and drops what leaves its 24 bits: the byte's bits
and the shifted ones do not overlap. -/
theorem shiftIn_eq {magic v : BitVec 24} {b : Byte}
    (h : v.toNat = (magic.toNat * 256 + b.toNat) % 2 ^ 24) : (magic <<< 8) ||| b.setWidth 24 = v := by
  have hdisjoint : (magic <<< 8) &&& b.setWidth 24 = 0#24 := by
    refine BitVec.eq_of_getLsbD_eq fun i hi => ?_
    by_cases h8 : i < 8
    · simp [h8]
    · simp [BitVec.getLsbD_of_ge b i (by omega)]
  refine BitVec.eq_of_toNat_eq ?_
  rw [← BitVec.add_eq_or_of_and_eq_zero _ _ hdisjoint, BitVec.toNat_add, BitVec.toNat_shiftLeft,
    BitVec.toNat_setWidth, Nat.shiftLeft_eq, h]
  omega

/-! ## The obligations -/

/-- Settles O15: each callback is one ACK around one write of the mouse record. -/
theorem mouseRateAndStreamingCommands : Obligations.MouseRateAndStreamingCommands := by
  refine ⟨fun s b magic hcap hmagic => ?rateParam,
    fun s hcap => ⟨fun _ => ?enable, ?disable, ?setDefaults⟩⟩
  case rateParam =>
    have hrate : (if b ≠ 0x00#8 then b else s.m.rate) = if b = 0x00#8 then s.m.rate else b := ite_not ..
    rw [exec_mouseRateParam, takeHostByte_ackMouse_setM hcap b (onRateParam_eq b _), State.flush_m,
      shiftIn_eq hmagic, upgradedLevel_eq, hrate]
  case enable =>
    rw [exec_mouseEnable, takeHostByte_ackMouse_setM hcap _ (onMouseEnable_eq _), State.flush_m,
      State.flush_now]
  case disable =>
    rw [exec_mouseDisable, takeHostByte_ackMouse_setM hcap _ (onMouseDisable_eq _), State.flush_m]
  case setDefaults =>
    rw [exec_mouseSetDefaults, takeHostByte_ackMouse_setM hcap _ (onMouseSetDefaults_eq _), State.flush_m]

/-- Settles O14: each callback is one enqueue; Read data writes `wasMoving` as well. -/
theorem mouseReplyCommands : Obligations.MouseReplyCommands := by
  refine fun s hcap => ⟨?status, ?readData, fun l id hl hid => ?getId, ?setRate⟩
  case status =>
    have hlen : s.cfg.mouseStatusReply.toList.length = 4 := s.cfg.mouseStatusReply.length_toList
    rw [exec_mouseStatus, takeHostByte_reply .mouse _ _ s hcap (List.ne_nil_of_length_pos (by omega))
      (by rw [hlen]; decide)]
  case readData =>
    rw [exec_mouseReadData, takeHostByte_ackMouse_setM hcap _ (onReadData_eq _), State.flush_m]
  case getId =>
    rw [exec_mouseGetId, takeHostByte_reply .mouse _ _ s hcap (by simp) (by simp [packetMax]), hl,
      levelId_eq hid]
  case setRate => rw [exec_mouseSetRate, takeHostByte_ackMouse hcap]

end Sys2Proof.Proofs
end

section
/-! Movement and its packets (R410 to R416): what a movement adds to the mouse record, and what a due tick
does with it. -/

namespace Sys2Proof.Proofs

open Sys2Proof Sys2Proof.Machine

/-! ## The instructions -/

theorem exec_onMovement (buttons : Byte) (dx dy wheel : Int) (s : State) :
    exec (.onMovement buttons dx dy wheel) s = .next (onMovement buttons dx dy wheel s) := rfl

/-- A due tick re-arms, then waits at rest or sends one packet. -/
theorem exec_mouseEmitFire_of_due {s : State} {d : Nat} (ht : s.m.emitTimer = some d) (hd : d ≤ s.now) :
    exec .mouseEmitFire s = .next
      (if movementPending s.m.accDx s.m.accDy s.m.accWheel = false ∧ s.m.wasMoving = false then
        s.setM { s.m with emitTimer := some (d + emitInterval s.m.rate) }
      else (enqueue .mouse (movementPacket s.m) s).setM { afterPacket s.m with
        emitTimer := some (d + emitInterval s.m.rate)
        wasMoving := movementPending s.m.accDx s.m.accDy s.m.accWheel }) := by
  show execMouseEmitFire s = _
  simp only [execMouseEmitFire, ht, if_neg (Nat.not_lt.mpr hd), armEmit, State.setM_m, setM_setM, enqueue_setM,
    Bool.and_eq_true, Bool.not_eq_true']
  split_ifs
  · rfl
  · rfl

/-! ## Movement (R410, R412, R416) -/

theorem movementPending_iff (dx dy : BitVec 16) (wheel : BitVec 8) :
    movementPending dx dy wheel = true ↔ dx ≠ 0#16 ∨ dy ≠ 0#16 ∨ wheel ≠ 0#8 := by
  simp [movementPending, or_assoc]

/-- What the clamp leaves of an accumulator fits it, so no wrap occurs. -/
theorem toInt_residual (v : BitVec 16) :
    (BitVec.ofInt 16 (v.toInt - clampInt v.toInt (-255) 255)).toInt
      = v.toInt - min (max v.toInt (-255)) 255 := by
  have hlow : -2 ^ 15 ≤ v.toInt := BitVec.le_toInt v
  have hhigh : v.toInt < 2 ^ 15 := BitVec.toInt_lt
  unfold clampInt
  exact BitVec.toInt_ofInt_eq_self (by decide) (by omega) (by omega)

/-! ## The obligations -/

/-- Settles O33: at rest the tick re-arms and no more; else the packet is sent and the residuals stay. -/
theorem emitTickByRule : Obligations.EmitTickByRule := by
  intro s d ht hd _ pending next
  have hpending : movementPending s.m.accDx s.m.accDy s.m.accWheel = true ↔ pending :=
    movementPending_iff ..
  rw [exec_mouseEmitFire_of_due ht hd]
  refine ⟨fun hrest hstill => ?suppressed, fun hmove => ⟨_, _, _, toInt_residual s.m.accDx,
    toInt_residual s.m.accDy, hpending, ?packet⟩⟩
  case suppressed =>
    rw [if_pos ⟨by simpa using mt hpending.mp hrest, hstill⟩]
    rfl
  case packet =>
    have hactive : ¬ (movementPending s.m.accDx s.m.accDy s.m.accWheel = false ∧ s.m.wasMoving = false) := by
      rintro ⟨hrest, hstill⟩
      simp [← hpending, hrest, hstill] at hmove
    rw [if_neg hactive]
    rfl

/-- Settles O32: R410's test of the buttons, as a disjunction. -/
theorem movementAccumulates : Obligations.MovementAccumulates := by
  intro s buttons dx dy wheel
  have hmoving : (if buttons &&& 0x1F#8 ≠ s.m.buttons then true else s.m.wasMoving)
      = (s.m.wasMoving || buttons &&& 0x1F#8 != s.m.buttons) := by
    by_cases heq : buttons &&& 0x1F#8 = s.m.buttons <;> simp [heq]
  rw [exec_onMovement, onMovement, hmoving]
  rfl

end Sys2Proof.Proofs
end

section
/-! Encoder and decoder (30_encoding): a frame and an item's data as bytes and back, a short item as its base
header and its data, a host byte as the instruction of its context. -/

namespace Sys2Proof.Proofs

open Sys2Proof Sys2Proof.Machine

/-! ## Words as bytes -/

theorem frameOfBytes_bytesOfFrame (raw : Frame) :
    frameOfBytes (raw.setWidth 8) ((raw >>> 8).setWidth 8) = raw := by
  refine BitVec.eq_of_getLsbD_eq fun i hi => ?_
  simp only [frameOfBytes, BitVec.getLsbD_setWidth, BitVec.getLsbD_append, BitVec.getLsbD_ushiftRight, hi,
    decide_true, Bool.true_and]
  split_ifs with h8
  · simp [h8]
  · simp [show i - 8 < 8 by omega, show 8 + (i - 8) = i by omega]

theorem bytes_of_word16 (v : BitVec 16) : v.extractLsb' 8 8 ++ v.extractLsb' 0 8 = v :=
  (BitVec.extractLsb'_append_extractLsb'_eq_extractLsb' rfl).trans BitVec.extractLsb'_eq_self

theorem bytes_of_word32 (v : BitVec 32) :
    v.extractLsb' 24 8 ++ v.extractLsb' 16 8 ++ v.extractLsb' 8 8 ++ v.extractLsb' 0 8 = v := by
  rw [BitVec.extractLsb'_append_extractLsb'_eq_extractLsb' (x := v) (start₂ := 24) rfl,
    BitVec.extractLsb'_append_extractLsb'_eq_extractLsb' (x := v) (start₂ := 16) rfl,
    BitVec.extractLsb'_append_extractLsb'_eq_extractLsb' (x := v) (start₂ := 8) rfl]
  exact BitVec.extractLsb'_eq_self

theorem extractLsb'_append_low {w : Nat} (hi : BitVec w) (lo : Byte) : (hi ++ lo).extractLsb' 0 8 = lo :=
  (BitVec.extractLsb'_append_eq_of_add_le (by omega)).trans BitVec.extractLsb'_eq_self

theorem extractLsb'_append_high {w : Nat} (hi : BitVec w) (lo : Byte) (k : Nat) :
    (hi ++ lo).extractLsb' (k + 8) 8 = hi.extractLsb' k 8 :=
  (BitVec.extractLsb'_append_eq_of_le (by omega)).trans (by rw [Nat.add_sub_cancel])

/-- The data bytes of an item are read back as its data, when the header has its size code (R152, R155). -/
theorem takeData_bytes {h : Byte} (d : ItemData) (rest : List Byte) (hs : sizeCode h = d.sizeCode.toNat) :
    takeData h (d.bytes ++ rest) = some (d, rest) := by
  cases d with
  | none => simp [takeData, hs, ItemData.sizeCode, ItemData.bytes]
  | b1 v => simp [takeData, hs, ItemData.sizeCode, ItemData.bytes]
  | b2 v => simp [takeData, hs, ItemData.sizeCode, ItemData.bytes, bytes_of_word16]
  | b4 v => simp [takeData, hs, ItemData.sizeCode, ItemData.bytes, bytes_of_word32]

/-- What is read as an item's data is that data's bytes, and the header has its size code. -/
theorem takeData_eq_some {h : Byte} {bytes rest : List Byte} {d : ItemData}
    (ht : takeData h bytes = some (d, rest)) : bytes = d.bytes ++ rest ∧ sizeCode h = d.sizeCode.toNat := by
  unfold takeData at ht
  split at ht
  case h_1 hs => cases ht; exact ⟨rfl, hs⟩
  case h_2 x _ hs => cases ht; exact ⟨rfl, hs⟩
  case h_3 x y _ hs =>
    cases ht
    have hx : BitVec.extractLsb' (n := 16) 0 8 (y ++ x) = x := extractLsb'_append_low y x
    have hy : BitVec.extractLsb' (n := 16) 8 8 (y ++ x) = y :=
      (extractLsb'_append_high y x 0).trans BitVec.extractLsb'_eq_self
    exact ⟨by simp [ItemData.bytes, hx, hy], hs⟩
  case h_4 x y z w _ hs =>
    cases ht
    have hx : BitVec.extractLsb' (n := 32) 0 8 (w ++ z ++ y ++ x) = x := extractLsb'_append_low _ x
    have hy : BitVec.extractLsb' (n := 32) 8 8 (w ++ z ++ y ++ x) = y :=
      (extractLsb'_append_high (w ++ z ++ y) x 0).trans (extractLsb'_append_low _ y)
    have hz : BitVec.extractLsb' (n := 32) 16 8 (w ++ z ++ y ++ x) = z :=
      (extractLsb'_append_high (w ++ z ++ y) x 8).trans
        ((extractLsb'_append_high (w ++ z) y 0).trans (extractLsb'_append_low _ z))
    have hw : BitVec.extractLsb' (n := 32) 24 8 (w ++ z ++ y ++ x) = w :=
      (extractLsb'_append_high (w ++ z ++ y) x 16).trans
        ((extractLsb'_append_high (w ++ z) y 8).trans
          ((extractLsb'_append_high w z 0).trans BitVec.extractLsb'_eq_self))
    exact ⟨by simp [ItemData.bytes, hx, hy, hz, hw], hs⟩
  case h_5 => cases ht

/-! ## Short items (R152 to R154) -/

/-- The size code does not change which item a header is (R154). -/
theorem itemOfHeader_sizeCode {base : Byte} (d : ItemData) (low : base &&& 0x03#8 = 0x00#8) :
    itemOfHeader (base ||| d.sizeCode) d = itemOfHeader base d := by
  have hbase : (base ||| d.sizeCode).toNat / 4 * 4 = base.toNat / 4 * 4 := by
    rw [(header_parts base d low).1]
    simpa [ItemData.sizeCode] using (header_parts base .none low).1.symm
  have htag : (base ||| d.sizeCode).extractLsb' 4 4 = base.extractLsb' 4 4 := by
    cases d <;> simp [ItemData.sizeCode, BitVec.extractLsb'_or]
  rw [itemOfHeader, itemOfHeader, hbase, htag]

/-- A short item in front of any bytes is read as the item of its base header. -/
theorem decode_shortItem {base : Byte} (d : ItemData) (rest : List Byte) (low : base &&& 0x03#8 = 0x00#8)
    (long : base ||| d.sizeCode ≠ 0xFE#8) :
    decode .descriptor (shortItem base d ++ rest) = .ok (itemOfHeader base d, rest) := by
  have ht : takeData (base ||| d.sizeCode) (d.bytes ++ rest) = some (d, rest) :=
    takeData_bytes d rest (header_parts base d low).2
  simp only [decode, shortItem, List.cons_append, decodeItem, if_neg long, decodeShortItem, ht,
    itemOfHeader_sizeCode d low]

/-- A header is its base and its size code. -/
theorem header_eq_base_or {h : Byte} {d : ItemData} (hs : sizeCode h = d.sizeCode.toNat) :
    h = h &&& 0xFC#8 ||| d.sizeCode := by
  have hlow : h &&& 0x03#8 = d.sizeCode := by
    refine BitVec.eq_of_toNat_eq ?_
    rw [BitVec.toNat_and, ← hs, sizeCode]
    exact Nat.and_two_pow_sub_one_eq_mod h.toNat 2
  rw [← hlow, ← BitVec.and_or_distrib_left]
  exact BitVec.and_allOnes.symm

/-- A header without its size code, as the number that names its item. -/
theorem base_eq {h base : Byte} (hn : h.toNat / 4 * 4 = base.toNat) : h &&& 0xFC#8 = base := by
  have hbase : ∀ h : Byte, (h &&& 0xFC#8).toNat = h.toNat / 4 * 4 := by decide +kernel
  exact BitVec.eq_of_toNat_eq ((hbase h).trans hn)

/-- A header names a row with its own base, or it is of the reserved type (R154, R287). -/
theorem itemOfHeader_cases (h : Byte) (d : ItemData) :
    (h.toNat / 4 % 4 ≠ 3 ∧ WellFormed (itemOfHeader h d)
      ∧ ∃ base : Byte, encode (itemOfHeader h d) = some (shortItem base d) ∧ h.toNat / 4 * 4 = base.toNat)
    ∨ (h.toNat / 4 % 4 = 3 ∧ itemOfHeader h d = .hidReservedType3 (h.extractLsb' 4 4) d) := by
  unfold itemOfHeader
  split
  case h_49 =>
    refine .inr ⟨?_, rfl⟩
    have hlt := h.isLt
    simp only [imp_false] at *
    omega
  all_goals exact .inl ⟨by omega, rfl, _, rfl, by assumption⟩

theorem itemOfHeader_reserved (tag : BitVec 4) (d : ItemData) :
    itemOfHeader (tag ++ 0xC#4) d = .hidReservedType3 tag d := by
  have htype : ∀ tag : BitVec 4, (tag ++ 0xC#4 : Byte).toNat / 4 % 4 = 3 := by decide
  have htag : ∀ tag : BitVec 4, (tag ++ 0xC#4 : Byte).extractLsb' 4 4 = tag := by decide
  obtain ⟨hnot, -⟩ | ⟨-, hres⟩ := itemOfHeader_cases (tag ++ 0xC#4) d
  · exact absurd (htype tag) hnot
  · rw [hres, htag]

theorem reserved_base {h : Byte} (htype : h.toNat / 4 % 4 = 3) : h.extractLsb' 4 4 ++ 0xC#4 = h &&& 0xFC#8 := by
  revert h
  decide +kernel

theorem reserved_tag_ne {h : Byte} (htype : h.toNat / 4 % 4 = 3) (hs : sizeCode h = 2) (hlong : h ≠ 0xFE#8) :
    h.extractLsb' 4 4 ≠ 0xF#4 := by
  unfold sizeCode at hs
  revert h
  decide +kernel

theorem encode_itemOfHeader (h : Byte) (d : ItemData) :
    encode (itemOfHeader h d) = some (shortItem (h &&& 0xFC#8) d) := by
  obtain ⟨-, -, base, henc, hbase⟩ | ⟨htype, hres⟩ := itemOfHeader_cases h d
  · rw [henc, base_eq hbase]
  · rw [hres, encode, reserved_base htype]

/-- Header 0xFE is no short item, so tag 15 of the reserved type never has size code 2 (R153). -/
theorem wellFormed_itemOfHeader {h : Byte} {d : ItemData} (hs : sizeCode h = d.sizeCode.toNat)
    (hlong : h ≠ 0xFE#8) : WellFormed (itemOfHeader h d) := by
  obtain ⟨-, hwf, -⟩ | ⟨htype, hres⟩ := itemOfHeader_cases h d
  · exact hwf
  · rw [hres]
    cases d with
    | b2 v => simpa [WellFormed, Instr.wellFormed] using reserved_tag_ne htype hs hlong
    | none => rfl
    | b1 v => rfl
    | b4 v => rfl

/-! ## Descriptor items (R153, R261) -/

theorem decodeItem_long {n tag : Byte} {data : List Byte} (rest : List Byte) (hn : data.length = n.toNat) :
    decodeItem (0xFE#8 :: n :: tag :: data ++ rest) = .ok (.hidLongItem tag data, rest) := by
  simp [decodeItem, ← hn]

/-- What is read from a descriptor is well formed, and its encoding is the bytes read. -/
theorem decodeItem_encode {bytes rest : List Byte} {i : Instr} (h : decodeItem bytes = .ok (i, rest)) :
    WellFormed i ∧ ∃ word, encode i = some word ∧ bytes = word ++ rest := by
  unfold decodeItem at h
  split at h
  · cases h
  next b bs =>
    split_ifs at h with hlong
    · split at h
      case h_2 => cases h
      next n tag tail =>
      split_ifs at h with hn
      cases h
      have hlen : (tail.take n.toNat).length = n.toNat := List.length_take_of_le hn
      refine ⟨?_, _, rfl, ?_⟩
      · have := n.isLt
        simp [WellFormed, Instr.wellFormed, hlen]
        omega
      · simp [hlen, hlong]
    · unfold decodeShortItem at h
      split at h
      case h_2 => cases h
      next d rest' ht =>
      cases h
      obtain ⟨rfl, hs⟩ := takeData_eq_some ht
      refine ⟨wellFormed_itemOfHeader hs hlong, _, encode_itemOfHeader b d, ?_⟩
      rw [shortItem, ← header_eq_base_or hs]
      rfl

/-! ## Host bytes (R143) -/

theorem decodeHostByte_resend (p : Port) (prev : Byte) : decodeHostByte p prev 0xFE#8 = .hostResend p := rfl

section NoResend

variable {prev b : Byte} (hb : b ≠ 0xFE#8)
include hb

theorem decodeHostByte_kbd_prefix :
    decodeHostByte .kbd 0xED#8 b = .kbdLedParam b ∧ decodeHostByte .kbd 0xF0#8 b = .kbdSetParam b
      ∧ decodeHostByte .kbd 0xF3#8 b = .kbdTypematicParam b := by
  simp [decodeHostByte, decodeKbdByte, hb]

theorem decodeHostByte_mouse_prefix : decodeHostByte .mouse 0xF3#8 b = .mouseRateParam b := by
  simp [decodeHostByte, decodeMouseByte, hb]

theorem decodeHostByte_kbd_command (hprev : isKbdPrefix prev = false) :
    decodeHostByte .kbd prev b = decodeKbdCommand b := by
  simp only [isKbdPrefix, Bool.or_eq_false_iff, beq_eq_false_iff_ne] at hprev
  simp [decodeHostByte, decodeKbdByte, hb, hprev]

theorem decodeHostByte_mouse_command (hprev : isMousePrefix prev = false) :
    decodeHostByte .mouse prev b = decodeMouseCommand b := by
  simp only [isMousePrefix, beq_eq_false_iff_ne] at hprev
  simp [decodeHostByte, decodeMouseByte, hb, hprev]

end NoResend

theorem decodeKbdCommand_other {b : Byte} (h : isKbdCommand b = false) : decodeKbdCommand b = .kbdOther b := by
  simp only [isKbdCommand, Bool.or_eq_false_iff, beq_eq_false_iff_ne] at h
  simp [decodeKbdCommand, h]

theorem decodeMouseCommand_other {b : Byte} (h : isMouseCommand b = false) :
    decodeMouseCommand b = .mouseOther b := by
  simp only [isMouseCommand, Bool.or_eq_false_iff, beq_eq_false_iff_ne] at h
  simp [decodeMouseCommand, h]

/-- The instruction is well formed on the host stream of p after `prev`, and its word is the byte b. -/
structure IsHostWord (p : Port) (prev b : Byte) (i : Instr) : Prop where
  wellFormed : WellFormed i
  admits : i.admits (.host p prev) = true
  encode : encode i = some [b]

theorem decodeKbdCommand_isHostWord {prev b : Byte} (hb : b ≠ 0xFE#8) (hprev : isKbdPrefix prev = false) :
    IsHostWord .kbd prev b (decodeKbdCommand b) := by
  have hadm : (!isKbdPrefix prev) = true := by rw [hprev]; rfl
  unfold decodeKbdCommand
  split_ifs
  case neg => exact ⟨by simp [WellFormed, Instr.wellFormed, isKbdCommand, *], hadm, rfl⟩
  all_goals subst b; exact ⟨rfl, hadm, rfl⟩

theorem decodeMouseCommand_isHostWord {prev b : Byte} (hb : b ≠ 0xFE#8) (hprev : isMousePrefix prev = false) :
    IsHostWord .mouse prev b (decodeMouseCommand b) := by
  have hadm : (!isMousePrefix prev) = true := by rw [hprev]; rfl
  unfold decodeMouseCommand
  split_ifs
  case neg => exact ⟨by simp [WellFormed, Instr.wellFormed, isMouseCommand, *], hadm, rfl⟩
  all_goals subst b; exact ⟨rfl, hadm, rfl⟩

theorem decodeHostByte_isHostWord (p : Port) (prev b : Byte) : IsHostWord p prev b (decodeHostByte p prev b) := by
  by_cases hb : b = 0xFE#8
  · subst hb
    exact ⟨rfl, by cases p <;> rfl, rfl⟩
  have hwf : (b != 0xFE#8) = true := by simpa using hb
  cases p with
  | kbd =>
    obtain ⟨hled, hset, htyp⟩ := decodeHostByte_kbd_prefix hb
    by_cases hprev : isKbdPrefix prev = false
    · rw [decodeHostByte_kbd_command hb hprev]
      exact decodeKbdCommand_isHostWord hb hprev
    · simp only [isKbdPrefix, Bool.not_eq_false, Bool.or_eq_true, beq_iff_eq] at hprev
      obtain (rfl | rfl) | rfl := hprev
      · rw [hled]; exact ⟨hwf, rfl, rfl⟩
      · rw [hset]; exact ⟨hwf, rfl, rfl⟩
      · rw [htyp]; exact ⟨hwf, rfl, rfl⟩
  | mouse =>
    by_cases hprev : isMousePrefix prev = false
    · rw [decodeHostByte_mouse_command hb hprev]
      exact decodeMouseCommand_isHostWord hb hprev
    · obtain rfl : prev = 0xF3#8 := by simpa [isMousePrefix] using hprev
      rw [decodeHostByte_mouse_prefix hb]
      exact ⟨hwf, rfl, rfl⟩

/-! ## The streams that carry an instruction -/

theorem admits_descriptor {src : Source} (h : (src == .descriptor) = true) : src = .descriptor := by
  simpa using h

theorem admits_kbdCommand {src : Source} (h : Instr.kbdEcho.admits src = true) :
    ∃ prev, src = .host .kbd prev ∧ isKbdPrefix prev = false := by
  cases src with
  | host p prev =>
    cases p with
    | kbd => exact ⟨prev, rfl, by simpa [Instr.admits] using h⟩
    | mouse => cases h
  | _ => cases h

theorem admits_mouseCommand {src : Source} (h : Instr.mouseStatus.admits src = true) :
    ∃ prev, src = .host .mouse prev ∧ isMousePrefix prev = false := by
  cases src with
  | host p prev =>
    cases p with
    | kbd => cases h
    | mouse => exact ⟨prev, rfl, by simpa [Instr.admits] using h⟩
  | _ => cases h

theorem admits_hostResend {p : Port} {src : Source} (h : (Instr.hostResend p).admits src = true) :
    ∃ prev, src = .host p prev := by
  cases src with
  | host q prev =>
    obtain rfl : p = q := by simpa [Instr.admits] using h
    exact ⟨prev, rfl⟩
  | _ => cases h

theorem admits_hostByteParityError {p : Port} {raw : Frame} {src : Source}
    (h : (Instr.hostByteParityError p raw).admits src = true) : ∃ prev, src = .wire p prev := by
  cases src with
  | wire q prev =>
    obtain rfl : p = q := by simpa [Instr.admits] using h
    exact ⟨prev, rfl⟩
  | _ => cases h

/-! ## The obligations -/

theorem decode_host (p : Port) (prev b : Byte) (rest : List Byte) :
    decode (.host p prev) ([b] ++ rest) = .ok (decodeHostByte p prev b, rest) := rfl

/-- Settles O3, by the instruction's stream: the codec and the wire by the bytes of a frame, a host byte by
its context, an item by its base header. -/
theorem decodeOfEncode : Obligations.DecodeOfEncode := by
  intro i src bytes rest hwf hadm henc
  cases i with
  | frame raw =>
    obtain rfl : src = .codec := by simpa [Instr.admits] using hadm
    cases henc
    simp [bytesOfFrame, decode, frameOfBytes_bytesOfFrame]
  | hostResend p =>
    obtain ⟨prev, rfl⟩ := admits_hostResend hadm
    cases henc
    rfl
  | hostByteParityError p raw =>
    obtain ⟨prev, rfl⟩ := admits_hostByteParityError hadm
    cases henc
    have hparity : (decodeFrame raw).2 = false := by simpa [WellFormed, Instr.wellFormed] using hwf
    simp [bytesOfFrame, decode, frameOfBytes_bytesOfFrame, decodeWire, hparity]
  | kbdSetLeds | kbdEcho | kbdScanSet | kbdIdentify | kbdSetTypematic | kbdEnable | kbdDisable
  | kbdSetDefaults | kbdReset =>
    obtain ⟨prev, rfl, hprev⟩ := admits_kbdCommand hadm
    cases henc
    rw [decode_host, decodeHostByte_kbd_command (by decide) hprev]
    rfl
  | kbdOther b =>
    obtain ⟨prev, rfl, hprev⟩ := admits_kbdCommand hadm
    cases henc
    obtain ⟨hb, hother⟩ : b ≠ 0xFE#8 ∧ isKbdCommand b = false := by
      simpa [WellFormed, Instr.wellFormed] using hwf
    rw [decode_host, decodeHostByte_kbd_command hb hprev, decodeKbdCommand_other hother]
  | kbdLedParam b =>
    obtain rfl : src = .host .kbd 0xED#8 := by simpa [Instr.admits] using hadm
    cases henc
    obtain ⟨hparam, -, -⟩ := decodeHostByte_kbd_prefix (b := b) (by simpa [WellFormed, Instr.wellFormed] using hwf)
    rw [decode_host, hparam]
  | kbdSetParam b =>
    obtain rfl : src = .host .kbd 0xF0#8 := by simpa [Instr.admits] using hadm
    cases henc
    obtain ⟨-, hparam, -⟩ := decodeHostByte_kbd_prefix (b := b) (by simpa [WellFormed, Instr.wellFormed] using hwf)
    rw [decode_host, hparam]
  | kbdTypematicParam b =>
    obtain rfl : src = .host .kbd 0xF3#8 := by simpa [Instr.admits] using hadm
    cases henc
    obtain ⟨-, -, hparam⟩ := decodeHostByte_kbd_prefix (b := b) (by simpa [WellFormed, Instr.wellFormed] using hwf)
    rw [decode_host, hparam]
  | mouseStatus | mouseReadData | mouseGetId | mouseSetRate | mouseEnable | mouseDisable
  | mouseSetDefaults | mouseReset =>
    obtain ⟨prev, rfl, hprev⟩ := admits_mouseCommand hadm
    cases henc
    rw [decode_host, decodeHostByte_mouse_command (by decide) hprev]
    rfl
  | mouseOther b =>
    obtain ⟨prev, rfl, hprev⟩ := admits_mouseCommand hadm
    cases henc
    obtain ⟨hb, hother⟩ : b ≠ 0xFE#8 ∧ isMouseCommand b = false := by
      simpa [WellFormed, Instr.wellFormed] using hwf
    rw [decode_host, decodeHostByte_mouse_command hb hprev, decodeMouseCommand_other hother]
  | mouseRateParam b =>
    obtain rfl : src = .host .mouse 0xF3#8 := by simpa [Instr.admits] using hadm
    cases henc
    rw [decode_host, decodeHostByte_mouse_prefix (by simpa [WellFormed, Instr.wellFormed] using hwf)]
  | hidLongItem tag data =>
    obtain rfl := admits_descriptor hadm
    cases henc
    have hlen : data.length ≤ 255 := by simpa [WellFormed, Instr.wellFormed] using hwf
    exact decodeItem_long rest (by rw [BitVec.toNat_ofNat, Nat.mod_eq_of_lt (by omega)])
  | hidReservedType3 tag d =>
    obtain rfl := admits_descriptor hadm
    cases henc
    have hlong : (tag ++ 0xC#4 : Byte) ||| d.sizeCode ≠ 0xFE#8 := by
      refine Laws.reserved_header_ne_long tag d.sizeCode ?_
      cases d with
      | none => exact .inl rfl
      | b1 v => exact .inr (.inl rfl)
      | b2 v => exact .inr (.inr (.inr ⟨rfl, by simpa [WellFormed, Instr.wellFormed] using hwf⟩))
      | b4 v => exact .inr (.inr (.inl rfl))
    rw [decode_shortItem d rest (Laws.reserved_header_low tag) hlong, itemOfHeader_reserved]
  | usbMount | usbReport | usbUnmount | enqueue | poll | phyRx | phyTxFail | onKeyTransition | onMovement
  | kbdRepeatFire | kbdResetDone | ledSync | mouseEmitFire | mouseResetDone => cases henc
  | _ d =>
    obtain rfl := admits_descriptor hadm
    cases henc
    exact decode_shortItem d rest (by decide) (Laws.shortItem_ne_long _ d (by decide))

/-- Settles O4: each of the streams' decoders reads the word it answers the instruction of. -/
theorem encodeOfDecode : Obligations.EncodeOfDecode := by
  rintro src bytes i rest (rfl | ⟨p, prev, rfl⟩) h
  · obtain ⟨hwf, hword⟩ := decodeItem_encode h
    exact ⟨hwf, decodeItem_admits bytes rest i h, hword⟩
  · cases bytes with
    | nil => cases h
    | cons b tail =>
      cases h
      obtain ⟨hwf, hadm, henc⟩ := decodeHostByte_isHostWord p prev b
      exact ⟨hwf, hadm, [b], henc, rfl⟩

/-- Settles O7, word by word. -/
theorem writtenWordsDecode : Obligations.WrittenWordsDecode :=
  ⟨rfl, rfl, rfl, rfl, rfl, rfl, rfl, rfl⟩

/-- A frame with the byte's bits in 8:1 decodes to the byte, by its parity. -/
theorem decodeFrame_of_bits {b : Byte} {raw : Frame} (h : ∀ i < 8, raw.getLsbD (i + 1) = b.getLsbD i) :
    decodeFrame raw = (b, parityFlag b (raw.getLsbD 9)) := by
  have hbyte : (decodeFrame raw).1 = b :=
    BitVec.eq_of_getLsbD_eq fun i hi => (getLsbD_decodeFrame_fst raw i hi).trans (h i hi)
  exact Prod.ext hbyte (by rw [decodeFrame_snd, hbyte])

/-- R202: the codec's round trip, bit by bit. -/
theorem decodeFrame_encodeFrame (b : Byte) : decodeFrame (encodeFrame b) = (b, true) := by
  rw [decodeFrame_of_bits (getLsbD_encodeFrame_data b), getLsbD_encodeFrame_parity, parityFlag,
    popcount_add_oddParityBit]
  rfl

/-- Settles O2: the FRAME row is one write, and the round trip is R200's bits read by R201. -/
theorem frameLeavesCodecResult : Obligations.FrameLeavesCodecResult :=
  ⟨fun _ _ => rfl, decodeFrame_encodeFrame⟩

theorem decodeWire_of_bits {b : Byte} {raw : Frame} (h : ∀ i < 8, raw.getLsbD (i + 1) = b.getLsbD i) (p : Port)
    (prev : Byte) : decodeWire p prev raw =
      if parityFlag b (raw.getLsbD 9) then decodeHostByte p prev b else .hostByteParityError p raw := by
  rw [decodeWire, decodeFrame_of_bits h]

/-- Settles O5: the priority is the decoder's order of tests, and the frame's parity comes before it. -/
theorem hostByteDecodePriority : Obligations.HostByteDecodePriority := by
  refine ⟨⟨decodeHostByte_resend, fun b hb => ?params, fun prev hed hf0 hf3 => ?kbd, fun prev hf3 => ?mouse⟩,
    fun p prev b raw hbits => ?wire⟩
  case params =>
    obtain ⟨hled, hset, htyp⟩ := decodeHostByte_kbd_prefix hb
    exact ⟨hled, hset, htyp, decodeHostByte_mouse_prefix hb⟩
  case kbd =>
    have hcommand : ∀ b, b ≠ 0xFE#8 → decodeHostByte .kbd prev b = decodeKbdCommand b := fun b hb =>
      decodeHostByte_kbd_command hb (by simp [isKbdPrefix, hed, hf0, hf3])
    refine ⟨hcommand _ (by decide), hcommand _ (by decide), hcommand _ (by decide), hcommand _ (by decide),
      hcommand _ (by decide), hcommand _ (by decide), hcommand _ (by decide), hcommand _ (by decide),
      hcommand _ (by decide), fun b hb => ?_⟩
    simp only [List.mem_cons, List.not_mem_nil, or_false, not_or] at hb
    rw [hcommand b hb.1, decodeKbdCommand_other (by simp [isKbdCommand, hb])]
  case mouse =>
    have hcommand : ∀ b, b ≠ 0xFE#8 → decodeHostByte .mouse prev b = decodeMouseCommand b := fun b hb =>
      decodeHostByte_mouse_command hb (by simp [isMousePrefix, hf3])
    refine ⟨hcommand _ (by decide), hcommand _ (by decide), hcommand _ (by decide), hcommand _ (by decide),
      hcommand _ (by decide), hcommand _ (by decide), hcommand _ (by decide), hcommand _ (by decide),
      fun b hb => ?_⟩
    simp only [List.mem_cons, List.not_mem_nil, or_false, not_or] at hb
    rw [hcommand b hb.1, decodeMouseCommand_other (by simp [isMouseCommand, hb])]
  case wire =>
    rw [decodeWire_of_bits hbits]
    exact ⟨fun hodd => if_pos (by rw [parityFlag, hodd]; rfl),
      fun heven => if_neg (by rw [parityFlag, heven]; decide)⟩

/-! ## The length of an item (R153, R262) -/

/-- The number of data bytes of a header's size code. -/
theorem length_bytes_of_sizeCode {h : Byte} {d : ItemData} (hs : sizeCode h = d.sizeCode.toNat) :
    d.bytes.length = [0, 1, 2, 4].getD (h.toNat % 4) 0 := by
  rw [show h.toNat % 4 = d.sizeCode.toNat from hs]
  cases d <;> rfl

/-- Data is read exactly when as many bytes are there as the size code tells. -/
theorem takeData_isSome_iff (h : Byte) (bytes : List Byte) :
    (∃ r, takeData h bytes = some r) ↔ [0, 1, 2, 4].getD (h.toNat % 4) 0 ≤ bytes.length := by
  constructor
  · rintro ⟨⟨d, rest⟩, ht⟩
    obtain ⟨rfl, hs⟩ := takeData_eq_some ht
    simp [length_bytes_of_sizeCode hs]
  · intro hlen
    obtain hc | hc | hc | hc : h.toNat % 4 = 0 ∨ h.toNat % 4 = 1 ∨ h.toNat % 4 = 2 ∨ h.toNat % 4 = 3 := by omega
    · exact ⟨(.none, bytes), by simp [takeData, sizeCode, hc]⟩
    all_goals rw [hc] at hlen
    · obtain _ | ⟨x, rest⟩ := bytes
      · simp at hlen
      · exact ⟨(.b1 x, rest), by simp [takeData, sizeCode, hc]⟩
    · obtain _ | ⟨x, _ | ⟨y, rest⟩⟩ := bytes
      · simp at hlen
      · simp at hlen
      · exact ⟨(.b2 (y ++ x), rest), by simp [takeData, sizeCode, hc]⟩
    · obtain _ | ⟨x, _ | ⟨y, _ | ⟨z, _ | ⟨w, rest⟩⟩⟩⟩ := bytes
      · simp at hlen
      · simp at hlen
      · simp at hlen
      · simp at hlen
      · exact ⟨(.b4 (w ++ z ++ y ++ x), rest), by simp [takeData, sizeCode, hc]⟩

section Long

variable {bytes rest : List Byte} {i : Instr}

theorem decodeItem_long_isOk_iff :
    (∃ r, decodeItem (0xFE#8 :: bytes) = .ok r) ↔ 3 + (bytes.headD 0x00#8).toNat ≤ bytes.length + 1 := by
  obtain _ | ⟨n, _ | ⟨tag, tail⟩⟩ := bytes
  · simp [decodeItem]
  · simp [decodeItem]
    omega
  · by_cases hn : n.toNat ≤ tail.length
    · simp [decodeItem, hn]; omega
    · simp [decodeItem, hn]; omega

theorem decodeItem_long_rest (h : decodeItem (0xFE#8 :: bytes) = .ok (i, rest)) :
    rest = (0xFE#8 :: bytes).drop (3 + (bytes.headD 0x00#8).toNat) := by
  obtain _ | ⟨n, _ | ⟨tag, tail⟩⟩ := bytes
  · cases h
  · cases h
  · rw [decodeItem, if_pos rfl] at h
    split_ifs at h
    cases h
    rw [List.headD_cons, Nat.add_comm]
    rfl

end Long

section Short

variable {h : Byte} {bytes rest : List Byte} {i : Instr} (hshort : h ≠ 0xFE#8)
include hshort

theorem decodeItem_short : decodeItem (h :: bytes) = decodeShortItem h bytes := by
  simp only [decodeItem, if_neg hshort]

theorem decodeItem_short_isOk_iff :
    (∃ r, decodeItem (h :: bytes) = .ok r) ↔ 1 + [0, 1, 2, 4].getD (h.toNat % 4) 0 ≤ bytes.length + 1 := by
  rw [decodeItem_short hshort, Nat.add_comm 1, Nat.add_le_add_iff_right, ← takeData_isSome_iff, decodeShortItem]
  cases takeData h bytes <;> simp

theorem decodeItem_short_rest (hok : decodeItem (h :: bytes) = .ok (i, rest)) :
    rest = (h :: bytes).drop (1 + [0, 1, 2, 4].getD (h.toNat % 4) 0) := by
  rw [decodeItem_short hshort, decodeShortItem] at hok
  split at hok
  · next d rest' ht =>
    cases hok
    obtain ⟨rfl, hs⟩ := takeData_eq_some ht
    rw [← length_bytes_of_sizeCode hs, Nat.add_comm, List.drop_succ_cons, List.drop_left]
  · cases hok

end Short

/-- Settles O6: the long item and the short ones, each by what its decoder asks for. -/
theorem itemLengthFromHeader : Obligations.ItemLengthFromHeader := by
  refine ⟨fun h bytes => ?_, fun n tag data rest hn => decodeItem_long rest hn, fun _ _ _ => rfl⟩
  by_cases hlong : h = 0xFE#8
  · subst hlong
    exact ⟨decodeItem_long_isOk_iff, fun i rest => decodeItem_long_rest⟩
  · simp only [if_neg hlong]
    exact ⟨decodeItem_short_isOk_iff hlong, fun i rest => decodeItem_short_rest hlong⟩

end Sys2Proof.Proofs
end

section
/-! Host bytes and polls (R229 to R244): the one equation that every engine's host byte follows, what a received
frame can do, and the packets a poll sends. -/

namespace Sys2Proof.Proofs

open Sys2Proof Sys2Proof.Machine

/-! ## The writes of a host byte (R144, R145, R235)

A host byte's instruction flushes its port, writes its engine and answers with one packet; these are the
writes, the packet is `hostReply`. -/

/-- What a keyboard instruction writes of K, or the condition it raises. -/
def kbdWrites (i : Instr) (s : State) : State :=
  match i with
  | .kbdLedParam b =>
    s.setK { s.k with ledByte := s.cfg.ledTable.get (ledIndex b), ledSyncPending := true }
  | .kbdTypematicParam b => s.setK { s.k with
      intervalUs := s.cfg.typematicIntervalUs.get (rateIndex b)
      delayMs := s.cfg.typematicDelayMs.get (delayIndex b) }
  | .kbdEnable => s.setK { s.k with enabled := true }
  | .kbdDisable => s.setK { s.k with
      enabled := false, repeatKey := 0x00#8, repeatTimer := none
      delayMs := s.cfg.typematicDelayMs.get 1, intervalUs := s.cfg.typematicIntervalUs.get 0x0B }
  | .kbdSetDefaults => s.setK { s.k with
      delayMs := s.cfg.typematicDelayMs.get 1, intervalUs := s.cfg.typematicIntervalUs.get 0x0B }
  | .kbdReset => s.setK { s.k with
      enabled := false, repeatKey := 0x00#8, repeatTimer := none
      delayMs := s.cfg.typematicDelayMs.get 1, intervalUs := s.cfg.typematicIntervalUs.get 0x0B
      ledByte := 0x07#8, ledSyncPending := true
      resetPending := insertDeadline (s.now + 500000) s.k.resetPending }
  | .kbdOther b => s.raise (.unknownCommand .kbd b)
  | _ => s

/-- What a mouse instruction writes of M, or the condition it raises. -/
def mouseWrites (i : Instr) (s : State) : State :=
  match i with
  | .mouseReadData => s.setM { s.m with wasMoving := true }
  | .mouseRateParam b => s.setM { s.m with
      magic := (s.m.magic <<< 8) ||| b.setWidth 24
      rate := if b ≠ 0x00#8 then b else s.m.rate
      level := upgradedLevel s.m.level ((s.m.magic <<< 8) ||| b.setWidth 24) }
  | .mouseEnable => s.setM { s.m with
      streaming := true, emitTimer := some (s.now + 1000000 / s.m.rate.toNat) }
  | .mouseDisable => s.setM { s.m with streaming := false, emitTimer := none }
  | .mouseSetDefaults => s.setM { s.m with rate := 100#8 }
  | .mouseReset => s.setM {
      streaming := false, level := .standard, magic := 0#24, rate := 100#8, buttons := 0x00#8
      accDx := 0#16, accDy := 0#16, accWheel := 0#8, wasMoving := false, emitTimer := none
      resetPending := insertDeadline (s.now + s.cfg.mouseResetDelayMs * 1000) s.m.resetPending }
  | .mouseOther b =>
    (s.raise (.unknownCommand .mouse b)).setM { s.m with accDx := 0#16, accDy := 0#16, accWheel := 0#8 }
  | _ => s

/-- What a host instruction of port p writes besides the transceiver. -/
def hostWrites (p : Port) (i : Instr) (s : State) : State :=
  match p with
  | .kbd => kbdWrites i s
  | .mouse => mouseWrites i s

theorem kbdWrites_frame (i : Instr) (s : State) :
    kbdWrites i s = { s with k := (kbdWrites i s).k, log := (kbdWrites i s).log } := by
  cases i <;> rfl

theorem mouseWrites_frame (i : Instr) (s : State) :
    mouseWrites i s = { s with m := (mouseWrites i s).m, log := (mouseWrites i s).log } := by
  cases i <;> rfl

/-- All that a host instruction writes besides the transceiver: its engine and the log. -/
theorem hostWrites_frame (p : Port) (i : Instr) (s : State) : hostWrites p i s = { s with
    k := (hostWrites p i s).k, m := (hostWrites p i s).m, log := (hostWrites p i s).log } := by
  cases p with
  | kbd => rw [hostWrites, kbdWrites_frame]
  | mouse => rw [hostWrites, mouseWrites_frame]

/-- i is the host instruction of the byte b on port p: R235 around its writes and its reply, which is a packet
of legal length. -/
structure HostCommand (p : Port) (b : Byte) (i : Instr) : Prop where
  exec_eq : ∀ s, exec i s = .next (takeHostByte p b (enqueue p (hostReply i s)) (hostWrites p i s))
  reply_ne : ∀ s, hostReply i s ≠ []
  reply_le : ∀ s, (hostReply i s).length ≤ packetMax

/-- A callback that writes and then replies is the reply after the writes. -/
theorem takeHostByte_congr {p : Port} {callback : State → State} {pk : List Byte} {s x : State} (b : Byte)
    (h : callback (s.flush p) = enqueue p pk (x.flush p)) :
    takeHostByte p b callback s = takeHostByte p b (enqueue p pk) x := by
  rw [takeHostByte, h, takeHostByte]

/-- Reset enqueues its ACK first; its write of the mouse record does not see the queue. -/
theorem onMouseReset_eq (s : State) : onMouseReset s = ackMouse (s.setM {
    streaming := false, level := .standard, magic := 0#24, rate := 100#8, buttons := 0x00#8
    accDx := 0#16, accDy := 0#16, accWheel := 0#8, wasMoving := false, emitTimer := none
    resetPending := insertDeadline (s.now + s.cfg.mouseResetDelayMs * 1000) s.m.resetPending }) := by
  simp only [onMouseReset, ackMouse, enqueue_setM, enqueue_now, enqueue_cfg, enqueue_m]

/-- A host instruction answered with the ACK. -/
theorem hostCommand_of_ack {p : Port} {b : Byte} {i : Instr} (hreply : ∀ s, hostReply i s = [0xFA#8])
    (hexec : ∀ s, exec i s = .next (takeHostByte p b (enqueue p [0xFA#8]) (hostWrites p i s))) :
    HostCommand p b i where
  exec_eq s := by rw [hreply, hexec]
  reply_ne s := by simp [hreply]
  reply_le s := by simp [hreply, packetMax]

theorem hostCommand_kbdReset : HostCommand .kbd 0xFF#8 .kbdReset :=
  hostCommand_of_ack (fun _ => rfl) fun s =>
    (exec_kbdReset s).trans (congrArg _ (takeHostByte_congr 0xFF#8 (onKbdReset_eq (s.flush .kbd))))

theorem hostCommand_mouseReset : HostCommand .mouse 0xFF#8 .mouseReset :=
  hostCommand_of_ack (fun _ => rfl) fun s =>
    congrArg _ (takeHostByte_congr 0xFF#8 (onMouseReset_eq (s.flush .mouse)))

theorem hostCommand_kbdEcho : HostCommand .kbd 0xEE#8 .kbdEcho :=
  ⟨exec_kbdEcho, fun _ => by simp [hostReply], fun _ => by simp [hostReply, packetMax]⟩

theorem hostCommand_kbdIdentify : HostCommand .kbd 0xF2#8 .kbdIdentify :=
  ⟨exec_kbdIdentify, fun _ => by simp [hostReply], fun _ => by simp [hostReply, packetMax]⟩

theorem hostCommand_mouseStatus : HostCommand .mouse 0xE9#8 .mouseStatus :=
  ⟨exec_mouseStatus, fun _ => List.ne_nil_of_length_pos (by simp [hostReply]),
    fun _ => by simp [hostReply, packetMax]⟩

theorem hostCommand_mouseGetId : HostCommand .mouse 0xF2#8 .mouseGetId :=
  ⟨exec_mouseGetId, fun _ => by simp [hostReply], fun _ => by simp [hostReply, packetMax]⟩

theorem hostCommand_decodeKbdCommand (b : Byte) : HostCommand .kbd b (decodeKbdCommand b) :=
  ite_cases (fun h => h ▸ hostCommand_of_ack (fun _ => rfl) fun _ => rfl) fun _ =>
  ite_cases (fun h => h ▸ hostCommand_kbdEcho) fun _ =>
  ite_cases (fun h => h ▸ hostCommand_of_ack (fun _ => rfl) fun _ => rfl) fun _ =>
  ite_cases (fun h => h ▸ hostCommand_kbdIdentify) fun _ =>
  ite_cases (fun h => h ▸ hostCommand_of_ack (fun _ => rfl) fun _ => rfl) fun _ =>
  ite_cases (fun h => h ▸ hostCommand_of_ack (fun _ => rfl) fun _ => rfl) fun _ =>
  ite_cases (fun h => h ▸ hostCommand_of_ack (fun _ => rfl) fun _ => rfl) fun _ =>
  ite_cases (fun h => h ▸ hostCommand_of_ack (fun _ => rfl) fun _ => rfl) fun _ =>
  ite_cases (fun h => h ▸ hostCommand_kbdReset) fun _ => hostCommand_of_ack (fun _ => rfl) fun _ => rfl

theorem hostCommand_decodeMouseCommand (b : Byte) : HostCommand .mouse b (decodeMouseCommand b) :=
  ite_cases (fun h => h ▸ hostCommand_mouseStatus) fun _ =>
  ite_cases (fun h => h ▸ hostCommand_of_ack (fun _ => rfl) fun _ => rfl) fun _ =>
  ite_cases (fun h => h ▸ hostCommand_mouseGetId) fun _ =>
  ite_cases (fun h => h ▸ hostCommand_of_ack (fun _ => rfl) fun _ => rfl) fun _ =>
  ite_cases (fun h => h ▸ hostCommand_of_ack (fun _ => rfl) fun _ => rfl) fun _ =>
  ite_cases (fun h => h ▸ hostCommand_of_ack (fun _ => rfl) fun _ => rfl) fun _ =>
  ite_cases (fun h => h ▸ hostCommand_of_ack (fun _ => rfl) fun _ => rfl) fun _ =>
  ite_cases (fun h => h ▸ hostCommand_mouseReset) fun _ => hostCommand_of_ack (fun _ => rfl) fun _ => rfl

/-- Every host byte but 0xFE is a host command of its port (R143, R235). -/
theorem hostCommand_decodeHostByte (p : Port) (prev : Byte) {b : Byte} (hb : b ≠ 0xFE#8) :
    HostCommand p b (decodeHostByte p prev b) := by
  unfold decodeHostByte
  rw [if_neg hb]
  cases p with
  | kbd =>
    exact ite_cases (fun _ => hostCommand_of_ack (fun _ => rfl) fun _ => rfl) fun _ =>
      ite_cases (fun _ => hostCommand_of_ack (fun _ => rfl) fun _ => rfl) fun _ =>
      ite_cases (fun _ => hostCommand_of_ack (fun _ => rfl) fun _ => rfl) fun _ =>
      hostCommand_decodeKbdCommand b
  | mouse =>
    exact ite_cases (fun _ => hostCommand_of_ack (fun _ => rfl) fun _ => rfl) fun _ =>
      hostCommand_decodeMouseCommand b

/-! ## The outcome of a poll (R229, R234) -/

/-- The poll's state after its steps 1 and 2. -/
abbrev transmitted (p : Port) (lineIdle : Bool) (s : State) : State := pollTransmit p lineIdle (pollRecover p s)

/-- All that the instruction i of a received frame can do to x: a direct send, or the taking of a host byte. -/
inductive Received (p : Port) (i : Instr) (x : State) : State → Prop
  | parityError (raw : Frame) : i = .hostByteParityError p raw →
      Received p i x ((x.sendByte p 0xFE#8).raise (.parityError p raw))
  | resend : i = .hostResend p → Received p i x ((x.sendByte p (x.t p).lastTx).raise (.hostResend p))
  | command (b : Byte) : b ≠ 0xFE#8 → HostCommand p b i →
      Received p i x (takeHostByte p b (enqueue p (hostReply i x)) (hostWrites p i x))

theorem exec_decodeWire (p : Port) (prev : Byte) (raw : Frame) (x : State) :
    ∃ t, exec (decodeWire p prev raw) x = .next t ∧ Received p (decodeWire p prev raw) x t := by
  unfold decodeWire
  dsimp only
  split_ifs
  · by_cases hb : (decodeFrame raw).1 = 0xFE#8
    · rw [hb, decodeHostByte_resend]
      exact ⟨_, exec_hostResend p x, .resend rfl⟩
    · have hcommand := hostCommand_decodeHostByte p prev hb
      exact ⟨_, hcommand.exec_eq x, .command _ hb hcommand⟩
  · exact ⟨_, exec_hostByteParityError p raw x, .parityError raw rfl⟩

/-- A poll is its steps 1 and 2, and then what the first received frame does, if there is one. -/
theorem exec_poll_cases (p : Port) (lineIdle : Bool) (s : State) : ∃ t, exec (.poll p lineIdle) s = .next t
    ∧ ((s.rx p = [] ∧ t = transmitted p lineIdle s)
      ∨ ∃ raw more, s.rx p = raw :: more
        ∧ Received p (decodeWire p (s.t p).lastRx raw) ((transmitted p lineIdle s).setRx p more) t) := by
  cases hrx : s.rx p with
  | nil => exact ⟨_, exec_poll_of_rx_nil lineIdle hrx, .inl ⟨rfl, rfl⟩⟩
  | cons raw more =>
    obtain ⟨t, hexec, hreceived⟩ := exec_decodeWire p (s.t p).lastRx raw ((transmitted p lineIdle s).setRx p more)
    exact ⟨t, (exec_poll_of_rx_cons lineIdle hrx).trans hexec, .inr ⟨raw, more, rfl, hreceived⟩⟩

/-! ## The flush law (R243) -/

theorem hostReply_congr {s x : State} (hcfg : x.cfg = s.cfg) (hm : x.m = s.m) (i : Instr) :
    hostReply i x = hostReply i s := by
  simp only [hostReply, hcfg, hm]

@[simp] theorem hostWrites_cfg (p : Port) (i : Instr) (s : State) : (hostWrites p i s).cfg = s.cfg := by
  rw [hostWrites_frame]
@[simp] theorem hostWrites_t (p q : Port) (i : Instr) (s : State) : (hostWrites p i s).t q = s.t q := by
  rw [hostWrites_frame]; cases q <;> rfl
@[simp] theorem hostWrites_rx (p q : Port) (i : Instr) (s : State) : (hostWrites p i s).rx q = s.rx q := by
  rw [hostWrites_frame]; cases q <;> rfl

/-- A host command leaves its reply alone in the queue. -/
theorem exec_hostCommand {p : Port} {b : Byte} {i : Instr} (h : HostCommand p b i) {s : State}
    (hcap : 0 < s.cfg.queueCap) :
    exec i s = .next ((hostWrites p i s).replied p b (hostReply i s)) := by
  rw [h.exec_eq, takeHostByte_reply p b _ _ (by simpa using hcap) (h.reply_ne s) (h.reply_le s)]

/-- Settles O20: after the flush a host command's reply is alone in the queue. -/
theorem flushLeavesOnlyTheReply : Obligations.FlushLeavesOnlyTheReply := by
  intro p lineIdle s raw more b hcap hrx hframe hb
  have hdecode : decodeWire p (s.t p).lastRx raw = decodeHostByte p (s.t p).lastRx b := by
    simp [decodeWire, hframe]
  have hcommand := hostCommand_decodeHostByte p (s.t p).lastRx hb
  have hreply := hostReply_congr (s := s) (x := (transmitted p lineIdle s).setRx p more) (by simp) (by simp)
    (decodeHostByte p (s.t p).lastRx b)
  rw [exec_poll_of_rx_cons lineIdle hrx, hdecode, exec_hostCommand hcommand (by simpa using hcap), hreply]
  exact ⟨_, rfl, by simp [State.replied], by simp [State.replied], by simp [State.replied],
    by simp [State.replied]⟩

/-! ## A packet is sent whole (R244) -/

/-- k bytes of the head packet pk of port p are sent, and nothing hinders the next after a backoff. -/
structure Sending (p : Port) (pk : List Byte) (q : List (List Byte)) (k : Nat) (s : State) : Prop where
  queue : (s.t p).queue = pk :: q
  sent : (s.t p).bytesSent = k
  noFail : (s.t p).failLatch = false
  noRx : s.rx p = []
  busy : (s.t p).busyUntil ≤ s.now + s.cfg.backoffUs

/-- The state after a wait of BACKOFF_US that is followed by the events `more`. -/
def backedOff (more : List Event) (s : State) : State := (s.setNow (s.now + s.cfg.backoffUs)).setAgenda more

theorem runSteps_round {p : Port} {pk : List Byte} {q : List (List Byte)} {k : Nat} {s : State}
    (h : Sending p pk q k s) {more : List Event}
    (hagenda : s.agenda = .advance s.cfg.backoffUs :: .poll p true :: more) (n : Nat) :
    runSteps (n + 2) s = runSteps n (pollTransmit p true (backedOff more s)) := by
  have hadvance : step s
      = .next ((s.setAgenda (.poll p true :: more)).setNow (s.now + s.cfg.backoffUs)) := by
    rw [step, hagenda]; rfl
  have hpoll : step ((s.setAgenda (.poll p true :: more)).setNow (s.now + s.cfg.backoffUs))
      = .next (pollTransmit p true (backedOff more s)) := by
    change exec (.poll p true) (backedOff more s) = _
    rw [exec_poll_of_rx_nil true (by simpa [backedOff] using h.noRx),
      pollRecover_of_noFail (by simpa [backedOff] using h.noFail)]
  simp only [runSteps, hadvance, hpoll]

section Round

variable {p : Port} {pk : List Byte} {q : List (List Byte)} {k : Nat} {s : State} (more : List Event)
  (h : Sending p pk q k s)
include h

/-- The poll after the backoff sends the next byte. -/
theorem pollTransmit_backedOff_byte {b : Byte} (hb : pk[k]? = some b) :
    let t := pollTransmit p true (backedOff more s)
    Sending p pk q (k + 1) t ∧ t.agenda = more ∧ t.cfg = s.cfg
      ∧ t.out = s.out ++ [.phyTx p (encodeFrame b)] := by
  intro t
  have ht : t = _ := pollTransmit_of_byte (s := backedOff more s) (b := b) (by simpa [backedOff] using h.busy)
    (by simpa [backedOff] using h.queue) (by simpa [backedOff, h.sent] using hb)
  rw [ht]
  refine ⟨?_, by simp [backedOff], by simp [backedOff], by simp [backedOff]⟩
  cases p
  · exact ⟨h.queue, congrArg (· + 1) h.sent, h.noFail, h.noRx, le_rfl⟩
  · exact ⟨h.queue, congrArg (· + 1) h.sent, h.noFail, h.noRx, le_rfl⟩

/-- The poll after the last byte's backoff pops the packet. -/
theorem pollTransmit_backedOff_finished (hk : k = pk.length) :
    let t := pollTransmit p true (backedOff more s)
    (t.t p).queue = q ∧ (t.t p).bytesSent = 0 ∧ t.agenda = more ∧ t.out = s.out := by
  intro t
  have ht : t = _ := pollTransmit_of_finished (s := backedOff more s) (by simpa [backedOff] using h.busy)
    (by simpa [backedOff] using h.queue) (by simpa [backedOff, h.sent] using hk)
  rw [ht]
  simp [backedOff]

end Round

/-- With m bytes left, m + 1 spaced polls send them and pop the packet. -/
theorem runSteps_sending {p : Port} {pk : List Byte} {q : List (List Byte)} (rest : List Event) (m : Nat)
    {k : Nat} {s : State} (h : Sending p pk q k s) (hm : k + m = pk.length)
    (hagenda : s.agenda
      = (List.replicate (m + 1) [Event.advance s.cfg.backoffUs, .poll p true]).flatten ++ rest) :
    ∃ t, runSteps (2 * (m + 1)) s = .next t ∧ (t.t p).queue = q ∧ (t.t p).bytesSent = 0 ∧ t.agenda = rest
      ∧ t.out = s.out ++ (pk.drop k).map (fun b => Output.phyTx p (encodeFrame b)) := by
  induction m generalizing k s with
  | zero =>
    obtain ⟨hqueue, hsent, hrest, hout⟩ := pollTransmit_backedOff_finished rest h hm
    refine ⟨_, runSteps_round h (by simpa using hagenda) 0, hqueue, hsent, hrest, ?_⟩
    rw [hout, List.drop_eq_nil_of_le (by omega)]
    simp
  | succ m ih =>
    have hlt : k < pk.length := by omega
    obtain ⟨hnext, hmore, hcfg, hout⟩ := pollTransmit_backedOff_byte
      ((List.replicate (m + 1) [Event.advance s.cfg.backoffUs, .poll p true]).flatten ++ rest) h
      (List.getElem?_eq_getElem hlt)
    obtain ⟨t, hrun, hqueue, hsent, hrest, hfinal⟩ := ih hnext (by omega) (by rw [hmore, hcfg])
    refine ⟨t, ?_, hqueue, hsent, hrest, ?_⟩
    · rw [show 2 * (m + 1 + 1) = 2 * (m + 1) + 2 by ring, ← hrun]
      exact runSteps_round h (by rw [hagenda, List.replicate_succ]; rfl) _
    · rw [hfinal, hout, List.drop_eq_getElem_cons hlt, List.map_cons, List.append_assoc, List.singleton_append]

/-- Settles O21, by induction on the bytes left. -/
theorem packetIsSentWhole : Obligations.PacketIsSentWhole := by
  intro s p pk q rest hagenda hqueue hsent hfail hrx hbusy
  have h := runSteps_sending rest pk.length ⟨hqueue, hsent, hfail, hrx, hbusy⟩ (Nat.zero_add _) hagenda
  rwa [List.drop_zero] at h

end Sys2Proof.Proofs
end

section
/-! The descriptor walk (R260 to R288): its equations, an induction over its items, the capacities every item
keeps, and the fields a Main data item makes. -/

namespace Sys2Proof.Proofs

open Sys2Proof Sys2Proof.Machine

/-! ## The walk, step by step (R260) -/

theorem walk_nil (n : Nat) (s : State) : walk n [] s = s := by
  cases n <;> rfl

theorem walk_cons_error {b : Byte} {bs : List Byte} {e : DecodeError} (h : decodeItem (b :: bs) = .error e)
    (n : Nat) (s : State) : walk (n + 1) (b :: bs) s = itemTruncated s := by
  simp only [walk, h]

theorem walk_cons_ok {b : Byte} {bs rest : List Byte} {i : Instr} (h : decodeItem (b :: bs) = .ok (i, rest))
    (n : Nat) (s : State) : walk (n + 1) (b :: bs) s =
      let t := advancePos ((b :: bs).length - rest.length) (runItem i s)
      if t.parser.table.length = reportMax then stopAtReportMax rest t else walk n rest t := by
  simp only [walk, h]

/-- Every item has at least one byte, so any bound of at least the length gives the same walk. -/
theorem walk_bound (n m : Nat) (bytes : List Byte) (s : State) (hn : bytes.length ≤ n) (hm : bytes.length ≤ m) :
    walk n bytes s = walk m bytes s := by
  induction n generalizing m bytes s with
  | zero =>
    obtain rfl : bytes = [] := List.length_eq_zero_iff.mp (Nat.le_zero.mp hn)
    rw [walk_nil, walk_nil]
  | succ n ih =>
    cases bytes with
    | nil => rw [walk_nil, walk_nil]
    | cons b bs =>
      obtain ⟨m, rfl⟩ : ∃ k, m = k + 1 := Nat.exists_eq_add_one.mpr (by simp at hm; omega)
      cases h : decodeItem (b :: bs) with
      | error e => rw [walk_cons_error h, walk_cons_error h]
      | ok r =>
        obtain ⟨i, rest⟩ := r
        have hlt := decodeItem_shorter _ _ _ h
        rw [walk_cons_ok h, walk_cons_ok h]
        dsimp only
        rw [ih m rest _ (by omega) (by omega)]

/-- What every item and every condition keeps, a walk keeps. -/
theorem walk_induct {P : State → Prop}
    (hitem : ∀ i n x, i.admits .descriptor = true → P x → P (advancePos n (runItem i x)))
    (hraise : ∀ c x, P x → P (x.raise c)) (n : Nat) (bytes : List Byte) (s : State) (hs : P s) :
    P (walk n bytes s) := by
  induction n generalizing bytes s with
  | zero => exact hs
  | succ n ih =>
    cases bytes with
    | nil => exact hs
    | cons b bs =>
      cases h : decodeItem (b :: bs) with
      | error e => rw [walk_cons_error h]; exact hraise _ s hs
      | ok r =>
        obtain ⟨i, rest⟩ := r
        have hnext := hitem i ((b :: bs).length - rest.length) s (decodeItem_admits _ _ _ h) hs
        rw [walk_cons_ok h]
        exact ite_cases (fun _ => ite_cases (fun _ => hnext) fun _ => hraise _ _ hnext) fun _ => ih rest _ hnext

/-- Settles O9: the bound never cuts the walk short, and each item's step is the walk's equation. -/
theorem walkExecutesItems : Obligations.WalkExecutesItems := by
  refine ⟨fun desc s n hn => walk_bound _ n desc _ le_rfl hn, fun n h bytes s => ⟨walk_nil n s, fun herr => ?_,
    fun i rest hok => ⟨runItem i s, exec_item_next i s (decodeItem_admits _ _ _ hok), ?_⟩⟩⟩
  · rw [walk_cons_error herr]
    rfl
  · intro u
    rw [walk_cons_ok hok]
    exact (ite_not ..).symm

/-! ## The interpreter alone decides the walk (R56) -/

theorem stopAtReportMax_parser (rest : List Byte) (s : State) : (stopAtReportMax rest s).parser = s.parser := by
  unfold stopAtReportMax
  split_ifs <;> rfl

theorem walk_parser_congr (n : Nat) (bytes : List Byte) (s t : State) (h : s.parser = t.parser) :
    (walk n bytes s).parser = (walk n bytes t).parser := by
  induction n generalizing bytes s t with
  | zero => exact h
  | succ n ih =>
    cases bytes with
    | nil => exact h
    | cons b bs =>
      cases hd : decodeItem (b :: bs) with
      | error e => rw [walk_cons_error hd, walk_cons_error hd]; exact h
      | ok r =>
        obtain ⟨i, rest⟩ := r
        have hnext : (advancePos ((b :: bs).length - rest.length) (runItem i s)).parser
            = (advancePos ((b :: bs).length - rest.length) (runItem i t)).parser := by
          simp only [advancePos, State.setParser_parser, runItem_parser_congr i s t h]
        rw [walk_cons_ok hd, walk_cons_ok hd]
        generalize advancePos _ (runItem i s) = x at hnext ⊢
        generalize advancePos _ (runItem i t) = y at hnext ⊢
        dsimp only
        rw [hnext]
        split_ifs
        · rw [stopAtReportMax_parser, stopAtReportMax_parser, hnext]
        · exact ih rest x y hnext

theorem parse_parser_congr (desc : List Byte) (s t : State) : (parse desc s).parser = (parse desc t).parser :=
  walk_parser_congr _ _ _ _ rfl

/-- Settles O44: the reports do not depend on the state, and from State.reset they are computed. -/
theorem threeButtonMouseParses : Obligations.ThreeButtonMouseParses := by
  intro s
  rw [parse_parser_congr _ s State.reset]
  exact ⟨_, rfl, by decide +kernel, by decide +kernel, by decide +kernel⟩

/-! ## The capacities (R55, R264, R282) -/

section Capacities

variable {q : Parser} (h : q.Ok)
include h

theorem parserOk_clearLocals : q.clearLocals.Ok := ⟨h.table_ok, h.cur_ok, .inl rfl⟩

theorem parserOk_setOff (k : ItemKind) (n : Nat) : (q.setOff k n).Ok := by
  cases k <;> exact ⟨h.table_ok, h.cur_ok, h.range_open⟩

theorem parserOk_cur (cur : Report) (hcur : cur.fields.length ≤ fieldMax) : ({ q with cur := cur } : Parser).Ok :=
  ⟨h.table_ok, hcur, h.range_open⟩

/-- A Main data item adds at most as many fields as find room. -/
theorem parserOk_mainData (k : ItemKind) (d : ItemData) : (q.mainData k d).Ok := by
  have hfull := h.cur_ok
  refine parserOk_clearLocals (parserOk_setOff (parserOk_cur h _ ?_) k _)
  dsimp only
  split_ifs
  · exact hfull
  · simp only [List.length_append, Parser.newFields, List.length_map, List.length_range, Parser.room]
    omega

theorem parserOk_openCollection : q.openCollection.Ok := by
  unfold Parser.openCollection
  refine parserOk_clearLocals (q := { q with cur := _, depth := q.depth + 1 }) ⟨h.table_ok, ?_, h.range_open⟩
  dsimp only
  split_ifs
  · exact h.cur_ok
  · exact h.cur_ok

theorem parserOk_closeReport : q.closeReport.Ok := by
  obtain ⟨hlen, hfields⟩ := h.table_ok
  refine ⟨?_, Nat.zero_le _, h.range_open⟩
  unfold Parser.closeReport
  dsimp only
  split_ifs with hroom
  · refine ⟨by simp only [List.length_append, List.length_singleton]; omega, fun r hr => ?_⟩
    obtain hr | hr := List.mem_append.mp hr
    · exact hfields r hr
    · obtain rfl := List.mem_singleton.mp hr
      exact h.cur_ok
  · exact ⟨hlen, hfields⟩

theorem parserOk_endCollection : q.endCollection.Ok := by
  unfold Parser.endCollection
  split_ifs
  · exact parserOk_clearLocals h
  · obtain ⟨htable, hcur, hrange⟩ := parserOk_closeReport h
    exact parserOk_clearLocals (q := { q.closeReport with depth := 0 }) ⟨htable, hcur, hrange⟩
  · exact parserOk_clearLocals (q := { q with depth := q.depth - 1 }) ⟨h.table_ok, h.cur_ok, h.range_open⟩

/-- A range is expanded as soon as both its ends are set, whatever ends are written (R278). -/
theorem parserOk_range (a b : Option Usage) :
    ({ q with lUsageMin := a, lUsageMax := b } : Parser).expandRange.Ok := by
  cases a with
  | none => exact ⟨h.table_ok, h.cur_ok, .inl rfl⟩
  | some a =>
    cases b with
    | none => exact ⟨h.table_ok, h.cur_ok, .inr rfl⟩
    | some b => exact ⟨h.table_ok, h.cur_ok, .inl rfl⟩

end Capacities

theorem parserOk_init : Parser.init.Ok := ⟨⟨Nat.zero_le _, by simp [Parser.init]⟩, Nat.zero_le _, .inl rfl⟩

theorem mainData_parser (k : ItemKind) (d : ItemData) (s : State) :
    (mainData k d s).parser = s.parser.mainData k d := by
  unfold mainData
  split_ifs <;> rfl

/-- Every item keeps the capacities. -/
theorem parserOk_runItem (i : Instr) {s : State} (h : s.parser.Ok) : (runItem i s).parser.Ok := by
  cases i with
  | hidInput d | hidOutput d | hidFeature d =>
    exact (mainData_parser _ d s).symm ▸ parserOk_mainData h _ d
  | hidCollection d => exact parserOk_openCollection h
  | hidEndCollection d => exact parserOk_endCollection h
  | hidUsageMin d => exact parserOk_range h _ _
  | hidUsageMax d => exact parserOk_range h _ _
  | hidUsagePage | hidLogicalMin | hidLogicalMax | hidReportSize | hidReportId | hidReportCount | hidUsage =>
    exact ⟨h.table_ok, h.cur_ok, h.range_open⟩
  | hidMainReserved00 | hidMainReserved10 | hidMainReserved20 | hidMainReserved30 | hidMainReserved40
  | hidMainReserved50 | hidMainReserved60 | hidMainReserved70 | hidMainReservedD0 | hidMainReservedE0
  | hidMainReservedF0 => exact parserOk_clearLocals h
  | _ => exact h

theorem parserOk_advancePos (n : Nat) {s : State} (h : s.parser.Ok) : (advancePos n s).parser.Ok :=
  ⟨h.table_ok, h.cur_ok, h.range_open⟩

theorem parserOk_parse (desc : List Byte) (s : State) : (parse desc s).parser.Ok :=
  walk_induct (P := fun x => x.parser.Ok)
    (fun i n _ _ hx => parserOk_advancePos n (parserOk_runItem i hx)) (fun _ _ hx => hx) _ _ _ parserOk_init

/-- An item appends to the log. -/
theorem runItem_log (i : Instr) (s : State) : s.log <+: (runItem i s).log := by
  have hmain : ∀ k d, s.log <+: (mainData k d s).log := by
    intro k d
    unfold mainData
    exact ite_cases (P := fun x : State => s.log <+: x.log) (fun _ => List.prefix_append _ _)
      fun _ => List.prefix_rfl
  cases i with
  | hidInput d | hidOutput d | hidFeature d => exact hmain _ d
  | _ => exact List.prefix_rfl

theorem parse_log (desc : List Byte) (s : State) : s.log <+: (parse desc s).log :=
  walk_induct (P := fun x => s.log <+: x.log) (fun i _ x _ hx => hx.trans (runItem_log i x))
    (fun _ _ hx => hx.trans (List.prefix_append _ _)) _ _ _ List.prefix_rfl

/-- Settles O43: a walk writes the interpreter, appends to the log, and keeps the capacities. -/
theorem parseIsPureAndBounded : Obligations.ParseIsPureAndBounded := by
  refine ⟨fun desc s => ?_, fun desc s => (parserOk_parse desc s).table_ok⟩
  obtain ⟨l, hl⟩ := parse_log desc s
  exact ⟨(parse desc s).parser, l, hl ▸ parse_parserStep desc s⟩

/-! ## The fields of a Main data item (R280 to R283) -/

theorem usageFor_eq (usages : List Usage) (i : Nat) :
    usageFor usages i = usages[i]?.getD (usages.getLast?.getD 0#16) := by
  unfold usageFor
  cases usages[i]? <;> simp [List.getLastD_eq_getLast?]

/-- Bit 0 of an item's data is the Constant flag: the data is odd. -/
theorem constant_iff (d : ItemData) : (itemUnsigned d).getLsbD 0 = true ↔ itemValue d % 2 = 1 := by
  rw [← toNat_itemUnsigned, BitVec.getLsbD, Nat.testBit_zero, decide_eq_true_iff]

/-- The fields of the report after a Main data item. -/
def mainFields (q : Parser) (k : ItemKind) (d : ItemData) : List Field :=
  if itemValue d % 2 = 1 then q.cur.fields else q.cur.fields ++ q.newFields k

theorem mainData_eq (q : Parser) (k : ItemKind) (d : ItemData) : q.mainData k d = { q with
    cur := { q.cur with fields := mainFields q k d }
    offIn := q.offIn + (if k = .input then q.gReportCount * q.gReportSize.toNat else 0)
    offOut := q.offOut + (if k = .output then q.gReportCount * q.gReportSize.toNat else 0)
    offFeat := q.offFeat + (if k = .feature then q.gReportCount * q.gReportSize.toNat else 0)
    lUsages := [], lUsageMin := none, lUsageMax := none } := by
  simp only [Parser.mainData, constant_iff, mainFields]
  cases k <;> simp [Parser.setOff, Parser.off, Parser.clearLocals]

theorem losesFields_iff (q : Parser) (d : ItemData) :
    q.losesFields d = true ↔ ¬ itemValue d % 2 = 1 ∧ q.room < q.gReportCount := by
  rw [← constant_iff]
  simp [Parser.losesFields]

/-- Settles O42: the new fields are numbered by their place, and the log record follows the fields lost. -/
theorem mainDataItemsMakeFields : Obligations.MainDataItemsMakeFields := by
  intro k mk d s hk q c w field constant
  have hexec : exec (mk d) s = .next (mainData k d s) := by
    fin_cases hk <;> rfl
  refine ⟨mainData k d s, mainFields q k d, hexec, fun hc => if_pos hc, fun hc => ?data, ?state⟩
  case data =>
    have hfields : mainFields q k d = q.cur.fields ++ q.newFields k := if_neg hc
    rw [hfields]
    refine ⟨by simp [Parser.newFields, Parser.room, c], List.prefix_append _ _, fun i hi => ?_⟩
    rw [List.getElem?_append_right (by omega), Nat.add_sub_cancel_left, Parser.newFields, List.getElem?_map,
      List.getElem?_range (show i < min q.gReportCount q.room from hi), Option.map_some, Parser.newField, usageFor_eq]
  case state =>
    have hloses : q.losesFields d = true ↔ ¬ constant ∧ fieldMax - q.cur.fields.length < c := losesFields_iff q d
    unfold mainData
    dsimp only
    by_cases hlost : ¬ constant ∧ fieldMax - q.cur.fields.length < c
    · rw [if_pos (hloses.mpr hlost), if_pos hlost, mainData_eq]
      rfl
    · rw [if_neg (mt hloses.mp hlost), if_neg hlost, mainData_eq]
      rfl

end Sys2Proof.Proofs
end

section
/-! The timer steps (R356, R381, R398, R412, R428, R520): each when it is due and when it waits; and the mouse's
Reset (R427, R431). -/

namespace Sys2Proof.Proofs

open Sys2Proof Sys2Proof.Machine

/-! ## The repeat and the tick -/

theorem exec_kbdRepeatFire_of_waiting {s : State} (h : ∀ d, s.k.repeatTimer = some d → s.now < d) :
    exec .kbdRepeatFire s = .next s := by
  change execKbdRepeatFire s = _
  cases ht : s.k.repeatTimer with
  | none => simp only [execKbdRepeatFire, ht]
  | some d => simp only [execKbdRepeatFire, ht, if_pos (h d ht)]

theorem exec_mouseEmitFire_of_waiting {s : State} (h : ∀ d, s.m.emitTimer = some d → s.now < d) :
    exec .mouseEmitFire s = .next s := by
  change execMouseEmitFire s = _
  cases ht : s.m.emitTimer with
  | none => simp only [execMouseEmitFire, ht]
  | some d => simp only [execMouseEmitFire, ht, if_pos (h d ht)]

/-- A timer either waits or has a deadline that has passed. -/
theorem waiting_or_due (timer : Option Nat) (now : Nat) :
    (∀ d, timer = some d → now < d) ∨ ∃ d, timer = some d ∧ d ≤ now := by
  cases timer with
  | none => exact .inl fun _ h => nomatch h
  | some d =>
    obtain h | h := Nat.lt_or_ge now d
    · exact .inl fun e he => Option.some.inj he ▸ h
    · exact .inr ⟨d, rfl, h⟩

/-! ## The Reset completions -/

section ResetDone

variable {s : State} {d : Nat}

theorem exec_kbdResetDone_of_due (hmem : d ∈ s.k.resetPending) (hdue : d ≤ s.now) :
    exec (.kbdResetDone d) s = .next ((enqueue .kbd [0xAA#8] s).setK { s.k with
      resetPending := s.k.resetPending.erase d, enabled := true, ledByte := 0x00#8, ledSyncPending := true }) := by
  change execKbdResetDone d s = _
  simp only [execKbdResetDone, if_pos (And.intro hmem hdue), setLeds, setScanning, enqueue_setK, setK_setK,
    State.setK_k]

theorem exec_kbdResetDone_of_waiting (h : d ∉ s.k.resetPending ∨ s.now < d) :
    exec (.kbdResetDone d) s = .next s := by
  change execKbdResetDone d s = _
  rw [execKbdResetDone, if_neg]
  rintro ⟨hmem, hdue⟩
  obtain h | h := h
  · exact h hmem
  · omega

theorem exec_mouseResetDone_of_due (hmem : d ∈ s.m.resetPending) (hdue : d ≤ s.now) :
    exec (.mouseResetDone d) s = .next ((enqueue .mouse [0xAA#8, levelId s.m.level] s).setM { s.m with
      resetPending := s.m.resetPending.erase d }) := by
  change execMouseResetDone d s = _
  simp only [execMouseResetDone, if_pos (And.intro hmem hdue), State.setM_m, enqueue_setM]

theorem exec_mouseResetDone_of_waiting (h : d ∉ s.m.resetPending ∨ s.now < d) :
    exec (.mouseResetDone d) s = .next s := by
  change execMouseResetDone d s = _
  rw [execMouseResetDone, if_neg]
  rintro ⟨hmem, hdue⟩
  obtain h | h := h
  · exact h hmem
  · omega

theorem resetDone_waiting_or_due (d now : Nat) (pending : List Nat) :
    (d ∉ pending ∨ now < d) ∨ (d ∈ pending ∧ d ≤ now) := by
  by_cases hmem : d ∈ pending
  · obtain h | h := Nat.lt_or_ge now d
    · exact .inl (.inr h)
    · exact .inr ⟨hmem, h⟩
  · exact .inl (.inl hmem)

end ResetDone

/-! ## The LED sync -/

theorem exec_ledSync_of_pending {s : State} (h : s.k.ledSyncPending = true) : exec .ledSync s = .next
    (({ s with out := s.out ++ ledReports s.k.ledByte s.dev 0 } : State).setK
      { s.k with ledSyncPending := false }) := by
  change execLedSync s = _
  rw [execLedSync, if_pos h]

theorem exec_ledSync_of_idle {s : State} (h : s.k.ledSyncPending = false) : exec .ledSync s = .next s := by
  change execLedSync s = _
  rw [execLedSync, if_neg (by simp [h])]

/-- The LED reports are those of the instances that are valid and own LEDs, by rising index. -/
theorem ledReports_eq (v : Byte) (dev : List HidInstance) (i : Nat) : ledReports v dev i =
    ((List.range dev.length).filter (fun j => dev[j]?.any (fun d => d.valid && d.ledsOwned))).map
      (fun j => Output.usbLed (i + j) v) := by
  induction dev generalizing i with
  | nil => rfl
  | cons d rest ih =>
    have htail : ((List.range rest.length).map Nat.succ).filter
          (fun j => (d :: rest)[j]?.any (fun d => d.valid && d.ledsOwned))
        = ((List.range rest.length).filter (fun j => rest[j]?.any (fun d => d.valid && d.ledsOwned))).map
          Nat.succ := by
      rw [List.filter_map]
      rfl
    have hshift : ∀ j, i + 1 + j = i + Nat.succ j := fun j => by omega
    rw [ledReports, ih, List.length_cons, List.range_succ_eq_map, List.filter_cons, htail]
    by_cases h : (d.valid && d.ledsOwned) = true
    · simp [h, hshift]
    · simp [h, hshift]

/-! ## The obligations -/

/-- Settles O29: each step's test of its deadline or its flag. -/
theorem timersWaitForTheirDeadline : Obligations.TimersWaitForTheirDeadline := fun _ =>
  ⟨exec_kbdRepeatFire_of_waiting, fun _ => exec_kbdResetDone_of_waiting, exec_ledSync_of_idle,
    exec_mouseEmitFire_of_waiting, fun _ => exec_mouseResetDone_of_waiting⟩

/-- Settles O28: the completion's writes as one, and the reports as those of the LED owners. -/
theorem kbdResetDoneAndLedSync : Obligations.KbdResetDoneAndLedSync := by
  refine ⟨fun s d hmem hdue => exec_kbdResetDone_of_due hmem hdue, fun s h => ?_⟩
  rw [exec_ledSync_of_pending h, ledReports_eq]
  simp only [Nat.zero_add]
  rfl

/-- Settles O16: Reset and an unrecognized byte are host commands, the completion is one write and one packet. -/
theorem mouseResetByRule : Obligations.MouseResetByRule := by
  have hother : ∀ b, HostCommand .mouse b (.mouseOther b) := fun _ =>
    hostCommand_of_ack (fun _ => rfl) fun _ => rfl
  refine ⟨fun s hcap => ⟨⟨_, insertDeadline_perm _ _, exec_hostCommand hostCommand_mouseReset hcap⟩,
    fun b => exec_hostCommand (hother b) hcap⟩, fun s d id hmem hdue hid => ?_⟩
  rw [exec_mouseResetDone_of_due hmem hdue, levelId_eq hid]
  rfl

end Sys2Proof.Proofs
end

section
/-! What an event can do (R8, R111): every event but a passing of time, a power cycle, a poll and a keyboard Reset
completion is a sequence of elementary writes, each of which keeps what the spec asks of its record. -/

namespace Sys2Proof.Proofs

open Sys2Proof Sys2Proof.Machine

/-! ## Elementary writes -/

/-- k' may follow k outside the host commands and the Reset completion: scanning is as it was (R399), and the
record's invariant holds if it did. -/
structure KeyboardWrite (c : Params) (k k' : Keyboard) : Prop where
  enabled : k'.enabled = k.enabled
  resets : k'.resetPending = k.resetPending
  ok : ParamsOk c → k.Ok c → k'.Ok c

/-- m' may follow m outside the host commands: level and streaming are as they were (R432, R433), and the
record's invariant holds if it did. -/
structure MouseWrite (m m' : Mouse) : Prop where
  level : m'.level = m.level
  streaming : m'.streaming = m.streaming
  ok : m.Ok → m'.Ok

/-- One elementary write. -/
inductive Write (s : State) : State → Prop
  | packet (p : Port) (bytes : List Byte) : Write s (enqueue p bytes s)
  | condition (c : Condition) : Write s (s.raise c)
  | outputs (os : List Output) : Write s { s with out := s.out ++ os }
  | received (p : Port) (f : List Frame) : Write s (s.setRx p f)
  | txFailed (p : Port) : Write s (s.setT p { s.t p with failLatch := true })
  | keyboard (k : Keyboard) : KeyboardWrite s.cfg s.k k → Write s (s.setK k)
  | mouse (m : Mouse) : MouseWrite s.m m → Write s (s.setM m)
  | devices (d : List HidInstance) : (∀ n, DeviceTableOk n s.dev → DeviceTableOk n d) → Write s (s.setDev d)
  | parser (q : Parser) : (s.parser.Ok → q.Ok) → Write s (s.setParser q)
  | codec (c : Option CodecResult) : Write s (s.setCodec c)

/-- Some elementary writes, one after the other. -/
abbrev Writes : State → State → Prop := Relation.ReflTransGen Write

theorem Writes.of {s t : State} (h : Write s t) : Writes s t := .single h

theorem writes_packet_keyboard (bytes : List Byte) {s : State} {k : Keyboard} (h : KeyboardWrite s.cfg s.k k) :
    Writes s ((enqueue .kbd bytes s).setK k) :=
  (Writes.of (.packet .kbd bytes)).tail (.keyboard k (by simpa using h))

theorem writes_packet_mouse (bytes : List Byte) {s : State} {m : Mouse} (h : MouseWrite s.m m) :
    Writes s ((enqueue .mouse bytes s).setM m) :=
  (Writes.of (.packet .mouse bytes)).tail (.mouse m (by simpa using h))

/-! ## Key transitions (R350 to R353) -/

section KeyboardRecord

variable (c : Params) (k : Keyboard) (mods : Byte)

theorem keyboardWrite_mods : KeyboardWrite c k { k with mods := mods } where
  enabled := rfl
  resets := rfl
  ok _ h := ⟨h.repeat_iff, h.repeat_entry, h.delay_mem, h.interval_mem, h.led_low, h.resets_sorted⟩

theorem keyboardWrite_cancel : KeyboardWrite c k { k with mods := mods, repeatKey := 0x00#8, repeatTimer := none } where
  enabled := rfl
  resets := rfl
  ok _ h := ⟨by simp, fun hne => absurd rfl hne, h.delay_mem, h.interval_mem, h.led_low, h.resets_sorted⟩

/-- A repeat is armed for a key with codes only; usage 0 has none (R37). -/
theorem keyboardWrite_arm {u : Byte} (d : Nat) (hu : ParamsOk c → u ≠ 0x00#8)
    (hentry : (keyEntry c u).isSome = true) :
    KeyboardWrite c k { k with mods := mods, repeatKey := u, repeatTimer := some d } where
  enabled := rfl
  resets := rfl
  ok hc h := ⟨by simp [hu hc], fun _ => hentry, h.delay_mem, h.interval_mem, h.led_low, h.resets_sorted⟩

theorem keyboardWrite_rearm {d : Nat} (d' : Nat) (ht : k.repeatTimer = some d) :
    KeyboardWrite c k { k with repeatTimer := some d' } where
  enabled := rfl
  resets := rfl
  ok _ h := by
    refine ⟨?_, h.repeat_entry, h.delay_mem, h.interval_mem, h.led_low, h.resets_sorted⟩
    have hkey := h.repeat_iff
    rw [ht] at hkey
    simpa using hkey

theorem keyboardWrite_ledSynced : KeyboardWrite c k { k with ledSyncPending := false } where
  enabled := rfl
  resets := rfl
  ok _ h := ⟨h.repeat_iff, h.repeat_entry, h.delay_mem, h.interval_mem, h.led_low, h.resets_sorted⟩

end KeyboardRecord

theorem keyboardWrite_modifier {u : Byte} (hu : isModifier u = true) (s : State) (pressed : Bool) (mods : Byte) :
    KeyboardWrite s.cfg s.k (modifierKeyboard s u pressed mods) := by
  have hne : u ≠ 0x00#8 := by rintro rfl; exact absurd hu (by decide)
  have hentry : (keyEntry s.cfg u).isSome = true := by rw [keyEntry, if_pos hu]; rfl
  exact ite_cases (fun _ => keyboardWrite_mods _ _ _) fun _ =>
    ite_cases (fun _ => keyboardWrite_arm _ _ _ _ (fun _ => hne) hentry) fun _ =>
    ite_cases (fun _ => keyboardWrite_cancel _ _ _) fun _ => keyboardWrite_mods _ _ _

theorem writes_modifierTransition {u : Byte} (hu : isModifier u = true) (pressed : Bool) (s : State) :
    Writes s (modifierTransition u pressed s) := by
  cases hon : s.k.enabled with
  | false =>
    rw [modifierTransition_of_disabled hon]
    exact .of (.keyboard _ (keyboardWrite_mods _ _ _))
  | true =>
    rw [modifierTransition_of_enabled hon]
    exact writes_packet_keyboard _ (keyboardWrite_modifier hu s pressed _)

theorem writes_pauseTransition (pressed : Bool) (s : State) : Writes s (pauseTransition pressed s) :=
  ite_cases (fun _ => ite_cases (fun _ => .of (.packet _ _)) fun _ => .of (.packet _ _)) fun _ => .refl

theorem writes_keyTransition {u : Byte} {e : KeyCode} {s : State} (hmod : ¬ isModifier u = true)
    (he : s.cfg.sc2Table.lookup u = some e) (pressed : Bool) : Writes s (keyTransition u pressed s) := by
  have hne : ParamsOk s.cfg → u ≠ 0x00#8 := by
    rintro hc rfl
    exact absurd (hc.no_usage_zero.symm.trans he) (by simp)
  have hentry : (keyEntry s.cfg u).isSome = true := by rw [keyEntry, if_neg hmod, he]; rfl
  cases hon : s.k.enabled with
  | false => rw [keyTransition_of_disabled hon]
  | true =>
    cases pressed with
    | true =>
      rw [keyTransition_press hon]
      exact writes_packet_keyboard _ (keyboardWrite_arm _ s.k s.k.mods _ hne hentry)
    | false =>
      rw [keyTransition_release hon]
      exact ite_cases (fun _ => writes_packet_keyboard _ (keyboardWrite_cancel _ s.k s.k.mods)) fun _ =>
        .of (.packet _ _)

theorem writes_onKeyTransition (u : Byte) (pressed : Bool) (s : State) : Writes s (onKeyTransition u pressed s) := by
  unfold onKeyTransition
  refine ite_cases (fun hmod => writes_modifierTransition hmod pressed s) fun hmod =>
    ite_cases (fun _ => writes_pauseTransition pressed s) fun _ =>
    ite_cases (fun _ => .of (.condition _)) fun hsome => ?_
  cases he : s.cfg.sc2Table.lookup u with
  | none => exact absurd (by rw [he]; rfl) hsome
  | some e => exact writes_keyTransition hmod he pressed

theorem writes_transitions (cs : List (Byte × Bool)) (s : State) : Writes s (transitions cs s) := by
  induction cs generalizing s with
  | nil => exact .refl
  | cons c cs ih => exact (writes_onKeyTransition c.1 c.2 s).trans (ih _)

/-! ## Movement (R410, R412) -/

theorem mouseWrite_onMovement (m : Mouse) (buttons : Byte) (dx dy : BitVec 16) (wheel : BitVec 8) (moving : Bool) :
    MouseWrite m { m with
      wasMoving := moving, buttons := buttons &&& 0x1F#8, accDx := dx, accDy := dy, accWheel := wheel } where
  level := rfl
  streaming := rfl
  ok h := ⟨h.tick_iff, h.rate_ne, by rw [BitVec.and_assoc]; exact BitVec.and_zero, h.resets_sorted⟩

theorem writes_onMovement (buttons : Byte) (dx dy wheel : Int) (s : State) :
    Writes s (onMovement buttons dx dy wheel s) :=
  .of (.mouse _ (mouseWrite_onMovement s.m buttons _ _ _ _))

theorem mouseWrite_tick {m : Mouse} {d : Nat} (ht : m.emitTimer = some d) (d' : Nat) (dx dy : BitVec 16)
    (wheel : BitVec 8) (moving : Bool) : MouseWrite m { m with
      accDx := dx, accDy := dy, accWheel := wheel, emitTimer := some d', wasMoving := moving } where
  level := rfl
  streaming := rfl
  ok h := by
    have htick := h.tick_iff
    rw [ht] at htick
    exact ⟨htick, h.rate_ne, h.buttons_low, h.resets_sorted⟩

theorem mouseWrite_resets (m : Mouse) (d : Nat) : MouseWrite m { m with
    resetPending := m.resetPending.erase d } where
  level := rfl
  streaming := rfl
  ok h := ⟨h.tick_iff, h.rate_ne, h.buttons_low, h.resets_sorted.sublist List.erase_sublist⟩

/-! ## The timer steps -/

theorem exec_kbdRepeatFire_writes (s : State) : ∃ t, exec .kbdRepeatFire s = .next t ∧ Writes s t := by
  obtain hwait | ⟨d, ht, hd⟩ := waiting_or_due s.k.repeatTimer s.now
  · exact ⟨s, exec_kbdRepeatFire_of_waiting hwait, .refl⟩
  · refine ⟨_, exec_kbdRepeatFire_of_due ht hd, ?_⟩
    have hrearm := keyboardWrite_rearm s.cfg s.k (d + s.k.intervalUs) ht
    split_ifs
    · exact writes_packet_keyboard _ hrearm
    · exact .of (.keyboard _ hrearm)

theorem exec_ledSync_writes (s : State) : ∃ t, exec .ledSync s = .next t ∧ Writes s t := by
  cases h : s.k.ledSyncPending with
  | false => exact ⟨s, exec_ledSync_of_idle h, .refl⟩
  | true => exact ⟨_, exec_ledSync_of_pending h,
      (Writes.of (.outputs _)).tail (.keyboard _ (keyboardWrite_ledSynced _ _))⟩

theorem exec_mouseEmitFire_writes (s : State) : ∃ t, exec .mouseEmitFire s = .next t ∧ Writes s t := by
  obtain hwait | ⟨d, ht, hd⟩ := waiting_or_due s.m.emitTimer s.now
  · exact ⟨s, exec_mouseEmitFire_of_waiting hwait, .refl⟩
  · refine ⟨_, exec_mouseEmitFire_of_due ht hd, ?_⟩
    split_ifs
    · exact .of (.mouse _ (mouseWrite_tick ht _ s.m.accDx s.m.accDy s.m.accWheel s.m.wasMoving))
    · exact writes_packet_mouse _ (mouseWrite_tick ht _ _ _ _ _)

theorem exec_mouseResetDone_writes (d : Nat) (s : State) :
    ∃ t, exec (.mouseResetDone d) s = .next t ∧ Writes s t := by
  obtain hwait | ⟨hmem, hdue⟩ := resetDone_waiting_or_due d s.now s.m.resetPending
  · exact ⟨s, exec_mouseResetDone_of_waiting hwait, .refl⟩
  · exact ⟨_, exec_mouseResetDone_of_due hmem hdue, writes_packet_mouse _ (mouseWrite_resets s.m d)⟩

/-! ## Descriptor items (R260) -/

theorem writes_mainData (k : ItemKind) (d : ItemData) (s : State) : Writes s (mainData k d s) := by
  have hfields : Writes s (s.setParser (s.parser.mainData k d)) :=
    .of (.parser _ fun h => parserOk_mainData h k d)
  exact ite_cases (fun _ => hfields.tail (.condition _)) fun _ => hfields

theorem writes_item_of_setParser {i : Instr} {s : State} (h : runItem i s = s.setParser (runItem i s).parser) :
    Writes s (runItem i s) := by
  rw [h]
  exact .of (.parser _ (parserOk_runItem i))

theorem writes_runItem (i : Instr) (s : State) : Writes s (runItem i s) := by
  cases i with
  | hidInput d | hidOutput d | hidFeature d => exact writes_mainData _ d s
  | _ => exact writes_item_of_setParser rfl

theorem write_advancePos (n : Nat) (s : State) : Write s (advancePos n s) := .parser _ (parserOk_advancePos n)

theorem writes_parse (desc : List Byte) (s : State) : Writes s (parse desc s) :=
  walk_induct (P := Writes s) (fun i n x _ hx => (hx.trans (writes_runItem i x)).tail (write_advancePos n _))
    (fun c _ hx => hx.tail (.condition c)) _ _ _ (.of (.parser _ fun _ => parserOk_init))

/-! ## The device table (R47, R310, R330) -/

/-- A new record in slot i: valid only if it is in order, and if no other valid slot has its key. -/
theorem deviceTableOk_set {n i : Nat} {dev : List HidInstance} {d : HidInstance} (h : DeviceTableOk n dev)
    (hok : d.valid = true → d.Ok)
    (hkey : d.valid = true → ∀ j e, dev[j]? = some e → e.valid = true → e.addr = d.addr → e.itf = d.itf → j = i) :
    DeviceTableOk n (dev.set i d) where
  size := by rw [List.length_set, h.size]
  valid_ok e he hvalid := by
    obtain he | rfl := List.mem_or_eq_of_mem_set he
    · exact h.valid_ok e he hvalid
    · exact hok hvalid
  keys_distinct j k a b ha hb hva hvb haddr hitf := by
    rw [List.getElem?_set] at ha hb
    by_cases hj : i = j <;> by_cases hk : i = k
    · exact hj.symm.trans hk
    · rw [if_neg hk] at hb
      obtain rfl : d = a := by simp_all
      exact hj.symm.trans (hkey hva k b hb hvb haddr.symm hitf.symm).symm
    · rw [if_neg hj] at ha
      obtain rfl : d = b := by simp_all
      exact (hkey hvb j a ha hva haddr hitf).trans hk
    · rw [if_neg hj] at ha
      rw [if_neg hk] at hb
      exact h.keys_distinct j k a b ha hb hva hvb haddr hitf

/-- A slot keeps its order when it is freed, or when its key and what a mount has set stay. -/
theorem deviceTableOk_update {n i : Nat} {s : State} {d : HidInstance} (h : DeviceTableOk n s.dev)
    (hd : d.valid = true → (s.devAt i).valid = true ∧ d.addr = (s.devAt i).addr ∧ d.itf = (s.devAt i).itf
      ∧ ((s.devAt i).Ok → d.Ok)) : DeviceTableOk n (s.dev.set i d) := by
  by_cases hi : i < s.dev.length
  · have hget : s.dev[i]? = some (s.devAt i) := by
      rw [State.devAt, List.getD_eq_getElem?_getD, List.getElem?_eq_getElem hi, Option.getD_some]
    refine deviceTableOk_set h (fun hv => ?_) fun hv j e he hve haddr hitf => ?_
    · obtain ⟨hvalid, -, -, hok⟩ := hd hv
      exact hok (h.valid_ok _ (List.mem_of_getElem? hget) hvalid)
    · obtain ⟨hvalid, ha, hi', -⟩ := hd hv
      exact h.keys_distinct j i e _ he hget hve hvalid (haddr.trans ha) (hitf.trans hi')
  · rwa [List.set_eq_of_length_le (by omega)]

theorem findInstance_some {addr itf : Byte} {dev : List HidInstance} {i : Nat}
    (h : findInstance addr itf dev = some i) :
    ∃ d, dev[i]? = some d ∧ d.valid = true ∧ d.addr = addr ∧ d.itf = itf := by
  obtain ⟨hi, hmatch, -⟩ := List.findIdx?_eq_some_iff_getElem.mp h
  exact ⟨dev[i], List.getElem?_eq_getElem hi, (matchesKey_iff addr itf _).mp hmatch⟩

/-- The slot of a mount is the only valid one with its key, if there is one. -/
theorem mountSlot_unique {addr itf : Byte} {n i : Nat} {dev : List HidInstance} (h : DeviceTableOk n dev)
    (hslot : mountSlot addr itf dev = some i) {j : Nat} {e : HidInstance} (he : dev[j]? = some e)
    (hvalid : e.valid = true) (haddr : e.addr = addr) (hitf : e.itf = itf) : j = i := by
  cases hfind : findInstance addr itf dev with
  | some k =>
    obtain rfl : k = i := by simpa [mountSlot, hfind] using hslot
    obtain ⟨d, hd, hvd, had, hid⟩ := findInstance_some hfind
    exact h.keys_distinct j k e d he hd hvalid hvd (haddr.trans had.symm) (hitf.trans hid.symm)
  | none =>
    have hno := List.findIdx?_eq_none_iff.mp hfind e (List.mem_of_getElem? he)
    exact absurd ((matchesKey_iff addr itf e).mpr ⟨hvalid, haddr, hitf⟩) (by simp [hno])

theorem deviceTableOk_mount {addr itf : Byte} {n i : Nat} {dev : List HidInstance} {rs : List Report}
    (h : DeviceTableOk n dev) (hslot : mountSlot addr itf dev = some i) (hrs : reportsOk rs) (proto : Byte) :
    DeviceTableOk n (dev.set i (mountedInstance addr itf proto rs)) :=
  deviceTableOk_set h (fun _ => ⟨hrs, rfl, rfl⟩) fun _ _ _ he hvalid haddr hitf =>
    mountSlot_unique h hslot he hvalid haddr hitf

theorem parse_dev (desc : List Byte) (s : State) : (parse desc s).dev = s.dev := by
  rw [parse_parserStep desc s]

theorem exec_usbMount_writes (addr itf proto : Byte) (desc : List Byte) (s : State) :
    ∃ t, exec (.usbMount addr itf proto desc) s = .next t ∧ Writes s t := by
  cases hslot : mountSlot addr itf s.dev with
  | none => exact ⟨_, exec_usbMount_of_full proto desc hslot, .of (.condition _)⟩
  | some i =>
    have hexec : exec (.usbMount addr itf proto desc) s = .next
        (requestReport i (((parse desc s).setParser Parser.init).setDevAt i
          (mountedInstance addr itf proto (parse desc s).parser.table))) := by
      change execUsbMount addr itf proto desc s = _
      rw [execUsbMount, hslot]
    have hdev : ∀ n, DeviceTableOk n (parse desc s).dev → DeviceTableOk n
        ((parse desc s).dev.set i (mountedInstance addr itf proto (parse desc s).parser.table)) := fun n h =>
      deviceTableOk_mount h (by rwa [parse_dev]) (parserOk_parse desc s).table_ok proto
    exact ⟨_, hexec, (((writes_parse desc s).tail (.parser _ fun _ => parserOk_init)).tail
      (.devices _ hdev)).tail (.outputs _)⟩

theorem exec_usbUnmount_writes (addr itf : Byte) (s : State) :
    ∃ t, exec (.usbUnmount addr itf) s = .next t ∧ Writes s t := by
  cases hfind : findInstance addr itf s.dev with
  | none => exact ⟨s, exec_usbUnmount_of_unknown hfind, .refl⟩
  | some i => exact ⟨_, exec_usbUnmount_of_known hfind,
      .of (.devices _ fun n h => deviceTableOk_update h fun hv => nomatch hv)⟩

/-! ## Reports (R315 to R322) -/

theorem transitions_dev (cs : List (Byte × Bool)) (s : State) : (transitions cs s).dev = s.dev := by
  induction cs generalizing s with
  | nil => rfl
  | cons c cs ih =>
    refine (ih _).trans ?_
    change (onKeyTransition c.1 c.2 s).dev = s.dev
    rw [(onKeyTransition_keyStep c.1 c.2 s).frame]

theorem writes_applyKeyboard (i : Nat) (r : KeyReport) (s : State) : Writes s (applyKeyboard i r s) := by
  rw [applyKeyboard_eq]
  have hdev := transitions_dev (keyChanges (s.devAt i) r) s
  refine (writes_transitions (keyChanges (s.devAt i) r) s).tail (.devices _ fun n h => ?_)
  rw [hdev] at h ⊢
  exact deviceTableOk_update h fun hvalid => ⟨hvalid, rfl, rfl, fun hok =>
    ⟨hok.reports_ok, hok.isMouse_eq, hok.ledsOwned_eq⟩⟩

theorem writes_keyboardReport (i : Nat) (r : KeyReport) (s : State) : Writes s (keyboardReport i r s) :=
  ite_cases (fun _ => .of (.condition _)) fun _ => writes_applyKeyboard i r s

theorem writes_route (i : Nat) (rd : Option Report) (payload : List Byte) (s : State) :
    Writes s (route i rd payload s) := by
  cases rd with
  | some rd => exact ite_cases (fun _ => writes_keyboardReport i _ s) fun _ =>
      ite_cases (fun _ => writes_onMovement _ _ _ _ s) fun _ => .of (.condition _)
  | none => exact ite_cases (fun _ => writes_keyboardReport i _ s) fun _ =>
      ite_cases (fun _ => writes_onMovement _ _ _ _ s) fun _ => .of (.condition _)

theorem exec_usbReport_writes (addr itf : Byte) (rep : List Byte) (s : State) :
    ∃ t, exec (.usbReport addr itf rep) s = .next t ∧ Writes s t := by
  cases hfind : findInstance addr itf s.dev with
  | none => exact ⟨_, exec_usbReport_of_unknown rep hfind, .of (.condition _)⟩
  | some i =>
    cases hsel : selectReport (s.devAt i) rep with
    | unmatched rid => exact ⟨_, exec_usbReport_of_unmatched hfind hsel,
        (Writes.of (.condition _)).tail (.outputs _)⟩
    | selected rd payload => exact ⟨_, exec_usbReport_of_selected hfind hsel,
        (writes_route i rd payload s).tail (.outputs _)⟩

/-! ## Every event -/

/-- All that an event can do. -/
inductive Outcome (e : Event) (s : State) : State → Prop
  | time (us : Nat) : e = .advance us → Outcome e s (s.setNow (s.now + us))
  | power : e = .powerOn → Outcome e s (powerCycle s)
  | poll (p : Port) (lineIdle : Bool) : e = .poll p lineIdle → s.rx p = [] →
      Outcome e s (transmitted p lineIdle s)
  | pollReceived (p : Port) (lineIdle : Bool) (raw : Frame) (more : List Frame) (t : State) :
      e = .poll p lineIdle → s.rx p = raw :: more →
      Received p (decodeWire p (s.t p).lastRx raw) ((transmitted p lineIdle s).setRx p more) t → Outcome e s t
  | kbdResetDone (d : Nat) : e = .kbdResetDone d → d ∈ s.k.resetPending → d ≤ s.now →
      Outcome e s ((enqueue .kbd [0xAA#8] s).setK { s.k with
        resetPending := s.k.resetPending.erase d, enabled := true, ledByte := 0x00#8, ledSyncPending := true })
  | writes (t : State) : (∀ us, e ≠ .advance us) → e ≠ .powerOn → (∀ p lineIdle, e ≠ .poll p lineIdle) →
      (∀ d, e = .kbdResetDone d → ¬ (d ∈ s.k.resetPending ∧ d ≤ s.now)) → Writes s t → Outcome e s t

/-- An event whose instruction only writes. -/
theorem outcome_of_writes {e : Event} {s : State} (h : ∃ t, runEvent e s = .next t ∧ Writes s t)
    (hadvance : ∀ us, e ≠ .advance us) (hpower : e ≠ .powerOn) (hpoll : ∀ p lineIdle, e ≠ .poll p lineIdle)
    (hdone : ∀ d, e ≠ .kbdResetDone d) : ∃ t, runEvent e s = .next t ∧ Outcome e s t := by
  obtain ⟨t, hrun, hwrites⟩ := h
  exact ⟨t, hrun, .writes t hadvance hpower hpoll (fun d hd => absurd hd (hdone d)) hwrites⟩

theorem runEvent_item_writes (bytes : List Byte) (s : State) :
    ∃ t, runEvent (.item bytes) s = .next t ∧ Writes s t := by
  obtain ⟨_, he, -⟩ | ⟨he, -⟩ | ⟨_, -, -, hrun⟩ | ⟨_, i, n, -, -, -, hrun⟩ | ⟨hno, -⟩ :=
    runEvent_cases (.item bytes) s
  · cases he
  · cases he
  · exact ⟨_, hrun, .of (.condition _)⟩
  · exact ⟨_, hrun, (writes_runItem i s).tail (write_advancePos n _)⟩
  · exact absurd rfl (hno bytes)

theorem runEvent_outcome (e : Event) (s : State) : ∃ t, runEvent e s = .next t ∧ Outcome e s t := by
  cases e with
  | advance us => exact ⟨_, rfl, .time us rfl⟩
  | powerOn => exact ⟨_, rfl, .power rfl⟩
  | poll p lineIdle =>
    obtain ⟨t, hexec, ⟨hrx, rfl⟩ | ⟨raw, more, hrx, hreceived⟩⟩ := exec_poll_cases p lineIdle s
    · exact ⟨_, hexec, .poll p lineIdle rfl hrx⟩
    · exact ⟨t, hexec, .pollReceived p lineIdle raw more t rfl hrx hreceived⟩
  | kbdResetDone d =>
    obtain hwait | ⟨hmem, hdue⟩ := resetDone_waiting_or_due d s.now s.k.resetPending
    · refine ⟨s, exec_kbdResetDone_of_waiting hwait, .writes s (by simp) (by simp) (by simp) ?_ .refl⟩
      rintro _ ⟨⟩ ⟨hmem, hdue⟩
      obtain hwait | hwait := hwait
      · exact hwait hmem
      · omega
    · exact ⟨_, exec_kbdResetDone_of_due hmem hdue, .kbdResetDone d rfl hmem hdue⟩
  | item bytes => exact outcome_of_writes (runEvent_item_writes bytes s) (by simp) (by simp) (by simp) (by simp)
  | codec raw => exact outcome_of_writes ⟨_, rfl, .of (.codec _)⟩ (by simp) (by simp) (by simp) (by simp)
  | usbMount addr itf proto desc =>
    exact outcome_of_writes (exec_usbMount_writes addr itf proto desc s) (by simp) (by simp) (by simp) (by simp)
  | usbReport addr itf rep =>
    exact outcome_of_writes (exec_usbReport_writes addr itf rep s) (by simp) (by simp) (by simp) (by simp)
  | usbUnmount addr itf =>
    exact outcome_of_writes (exec_usbUnmount_writes addr itf s) (by simp) (by simp) (by simp) (by simp)
  | enqueue p bytes =>
    exact outcome_of_writes ⟨_, exec_enqueue p bytes s, .of (.packet p bytes)⟩
      (by simp) (by simp) (by simp) (by simp)
  | phyRx p raw =>
    exact outcome_of_writes ⟨_, exec_phyRx p raw s, .of (.received p _)⟩ (by simp) (by simp) (by simp) (by simp)
  | phyTxFail p =>
    exact outcome_of_writes ⟨_, exec_phyTxFail p s, .of (.txFailed p)⟩ (by simp) (by simp) (by simp) (by simp)
  | onKeyTransition u pressed =>
    exact outcome_of_writes ⟨_, exec_onKeyTransition u pressed s, writes_onKeyTransition u pressed s⟩
      (by simp) (by simp) (by simp) (by simp)
  | onMovement buttons dx dy wheel =>
    exact outcome_of_writes ⟨_, exec_onMovement buttons dx dy wheel s, writes_onMovement buttons dx dy wheel s⟩
      (by simp) (by simp) (by simp) (by simp)
  | kbdRepeatFire =>
    exact outcome_of_writes (exec_kbdRepeatFire_writes s) (by simp) (by simp) (by simp) (by simp)
  | ledSync => exact outcome_of_writes (exec_ledSync_writes s) (by simp) (by simp) (by simp) (by simp)
  | mouseEmitFire =>
    exact outcome_of_writes (exec_mouseEmitFire_writes s) (by simp) (by simp) (by simp) (by simp)
  | mouseResetDone d =>
    exact outcome_of_writes (exec_mouseResetDone_writes d s) (by simp) (by simp) (by simp) (by simp)

end Sys2Proof.Proofs
end

section
/-! What a step can do, from what an event can do: that it always answers (R516), what it leaves of time, log,
outputs and parameters (R8, R56), the mode tables of the two engines (R399, R432, R433) and the backoff (R563). -/

namespace Sys2Proof.Proofs

open Sys2Proof Sys2Proof.Machine

/-! ## From events to steps -/

theorem step_of_empty {s : State} (h : s.agenda = []) : step s = .next s := by rw [step, h]

theorem step_of_event {s : State} {e : Event} {rest : List Event} (h : s.agenda = e :: rest) :
    step s = runEvent e (s.setAgenda rest) := by rw [step, h]

theorem outcome_of_step {s t : State} {e : Event} {rest : List Event} (hagenda : s.agenda = e :: rest)
    (h : step s = .next t) : Outcome e (s.setAgenda rest) t := by
  obtain ⟨t', hrun, houtcome⟩ := runEvent_outcome e (s.setAgenda rest)
  rw [step_of_event hagenda, hrun] at h
  cases h
  exact houtcome

/-- A step is the outcome of the agenda's first event, or nothing. -/
theorem step_cases {s t : State} (h : step s = .next t) :
    (s.agenda = [] ∧ t = s) ∨ ∃ e rest, s.agenda = e :: rest ∧ Outcome e (s.setAgenda rest) t := by
  cases hagenda : s.agenda with
  | nil =>
    rw [step_of_empty hagenda] at h
    cases h
    exact .inl ⟨rfl, rfl⟩
  | cons e rest => exact .inr ⟨e, rest, rfl, outcome_of_step hagenda h⟩

/-- A reflexive and transitive relation that every write respects. -/
theorem Writes.respect {R : State → State → Prop} (refl : ∀ s, R s s)
    (trans : ∀ {s t u}, R s t → R t u → R s u) (write : ∀ {s t}, Write s t → R s t) {s t : State}
    (h : Writes s t) : R s t := by
  induction h with
  | refl => exact refl s
  | tail _ hwrite ih => exact trans ih (write hwrite)

/-! ## Nothing stops (R516) -/

theorem step_next (s : State) : ∃ t, step s = .next t := by
  cases hagenda : s.agenda with
  | nil => exact ⟨s, step_of_empty hagenda⟩
  | cons e rest =>
    obtain ⟨t, hrun, -⟩ := runEvent_outcome e (s.setAgenda rest)
    exact ⟨t, (step_of_event hagenda).trans hrun⟩

theorem exec_next (i : Instr) (s : State) : ∃ t, exec i s = .next t := by
  cases i with
  | poll p lineIdle => exact (exec_poll_cases p lineIdle s).imp fun _ h => h.1
  | usbMount addr itf proto desc => exact (exec_usbMount_writes addr itf proto desc s).imp fun _ h => h.1
  | usbReport addr itf rep => exact (exec_usbReport_writes addr itf rep s).imp fun _ h => h.1
  | usbUnmount addr itf => exact (exec_usbUnmount_writes addr itf s).imp fun _ h => h.1
  | kbdRepeatFire => exact (exec_kbdRepeatFire_writes s).imp fun _ h => h.1
  | ledSync => exact (exec_ledSync_writes s).imp fun _ h => h.1
  | mouseEmitFire => exact (exec_mouseEmitFire_writes s).imp fun _ h => h.1
  | mouseResetDone d => exact (exec_mouseResetDone_writes d s).imp fun _ h => h.1
  | kbdResetDone d => exact (runEvent_outcome (.kbdResetDone d) s).imp fun _ h => h.1
  | _ => exact ⟨_, rfl⟩

/-- Settles O58: the step through its event, an instruction case by case. -/
theorem nothingStops : Obligations.NothingStops := ⟨step_next, exec_next⟩

/-! ## Time, parameters, log and outputs (R8, R56, R500) -/

/-- Parameters and time are as they were; log and outputs have only grown. -/
structure Evolves (s t : State) : Prop where
  cfg : t.cfg = s.cfg
  now : t.now = s.now
  log : s.log <+: t.log
  out : s.out <+: t.out

theorem Evolves.refl (s : State) : Evolves s s := ⟨rfl, rfl, List.prefix_rfl, List.prefix_rfl⟩

theorem Evolves.trans {s t u : State} (h : Evolves s t) (g : Evolves t u) : Evolves s u :=
  ⟨g.cfg.trans h.cfg, g.now.trans h.now, h.log.trans g.log, h.out.trans g.out⟩

theorem evolves_setT (s : State) (p : Port) (x : Transceiver) : Evolves s (s.setT p x) := by
  constructor <;> simp

theorem evolves_setRx (s : State) (p : Port) (f : List Frame) : Evolves s (s.setRx p f) := by
  constructor <;> simp

theorem evolves_raise (s : State) (c : Condition) : Evolves s (s.raise c) :=
  ⟨rfl, rfl, List.prefix_append _ _, List.prefix_rfl⟩

theorem evolves_sendByte (s : State) (p : Port) (b : Byte) : Evolves s (s.sendByte p b) :=
  ⟨rfl, rfl, List.prefix_rfl, List.prefix_append _ _⟩

theorem evolves_enqueue (p : Port) (bytes : List Byte) (s : State) : Evolves s (enqueue p bytes s) := by
  obtain ⟨l, hl⟩ := enqueue_log p bytes s
  exact ⟨enqueue_cfg _ _ _, enqueue_now _ _ _, ⟨l, hl.symm⟩, by simp⟩

theorem evolves_write {s t : State} (h : Write s t) : Evolves s t := by
  cases h with
  | packet p bytes => exact evolves_enqueue p bytes s
  | condition c => exact evolves_raise s c
  | outputs os => exact ⟨rfl, rfl, List.prefix_rfl, List.prefix_append _ _⟩
  | received p f => exact evolves_setRx s p f
  | txFailed p => exact evolves_setT s p _
  | keyboard | mouse | devices | parser | codec => exact ⟨rfl, rfl, List.prefix_rfl, List.prefix_rfl⟩

theorem evolves_kbdWrites (i : Instr) (s : State) : Evolves s (kbdWrites i s) := by
  cases i with
  | kbdOther b => exact evolves_raise s _
  | _ => exact ⟨rfl, rfl, List.prefix_rfl, List.prefix_rfl⟩

theorem evolves_mouseWrites (i : Instr) (s : State) : Evolves s (mouseWrites i s) := by
  cases i with
  | mouseOther b => exact ⟨rfl, rfl, List.prefix_append _ _, List.prefix_rfl⟩
  | _ => exact ⟨rfl, rfl, List.prefix_rfl, List.prefix_rfl⟩

theorem evolves_hostWrites (p : Port) (i : Instr) (s : State) : Evolves s (hostWrites p i s) := by
  cases p with
  | kbd => exact evolves_kbdWrites i s
  | mouse => exact evolves_mouseWrites i s

theorem evolves_pollRecover (p : Port) (s : State) : Evolves s (pollRecover p s) := by
  obtain ⟨h, -⟩ | ⟨h, -⟩ := pollRecover_cases p s
  · rw [h]
    exact .refl s
  · rw [h]
    exact (evolves_setT s p _).trans (evolves_raise _ _)

theorem evolves_pollTransmit (p : Port) (lineIdle : Bool) (s : State) : Evolves s (pollTransmit p lineIdle s) := by
  obtain h | ⟨_, _, b, -, -, -, h⟩ | ⟨_, _, -, -, -, h⟩ := pollTransmit_cases p lineIdle s
  · rw [h]
    exact .refl s
  · rw [h]
    exact (evolves_setT s p _).trans (evolves_sendByte _ p b)
  · rw [h]
    exact evolves_setT s p _

theorem evolves_transmitted (p : Port) (lineIdle : Bool) (s : State) : Evolves s (transmitted p lineIdle s) :=
  (evolves_pollRecover p s).trans (evolves_pollTransmit p lineIdle _)

theorem evolves_received {p : Port} {i : Instr} {x t : State} (h : Received p i x t) : Evolves x t := by
  cases h with
  | parityError raw => exact (evolves_sendByte x p _).trans (evolves_raise _ _)
  | resend => exact (evolves_sendByte x p _).trans (evolves_raise _ _)
  | command b _ _ => exact (((evolves_hostWrites p i x).trans (evolves_setT _ p _)).trans
      (evolves_enqueue p _ _)).trans (evolves_setT _ p _)

/-- Every event but a passing of time and a power cycle. -/
theorem evolves_outcome {e : Event} {s t : State} (h : Outcome e s t) (htime : ∀ us, e ≠ .advance us)
    (hpower : e ≠ .powerOn) : Evolves s t := by
  cases h with
  | time us he => exact absurd he (htime us)
  | power he => exact absurd he hpower
  | poll p lineIdle => exact evolves_transmitted p lineIdle s
  | pollReceived p lineIdle raw more _ _ _ hreceived =>
    exact ((evolves_transmitted p lineIdle s).trans (evolves_setRx _ p more)).trans (evolves_received hreceived)
  | kbdResetDone d => exact (evolves_enqueue .kbd _ s).trans ⟨rfl, rfl, List.prefix_rfl, List.prefix_rfl⟩
  | writes _ _ _ _ _ hwrites => exact hwrites.respect Evolves.refl Evolves.trans evolves_write

theorem step_of_advance {s : State} {us : Nat} {rest : List Event} (h : s.agenda = .advance us :: rest) :
    step s = .next { s with now := s.now + us, agenda := rest } := by
  rw [step_of_event h]
  rfl

theorem step_of_powerOn {s : State} {rest : List Event} (h : s.agenda = .powerOn :: rest) :
    step s = .next { State.powerOn s.cfg with out := s.out, agenda := rest } := by
  rw [step_of_event h]
  rfl

/-- What the agenda's first event says of a step; an empty agenda keeps the state. -/
theorem step_evolves {s t : State} (h : step s = .next t) :
    Evolves s t
    ∨ (∃ us rest, s.agenda = .advance us :: rest ∧ t = { s with now := s.now + us, agenda := rest })
    ∨ ∃ rest, s.agenda = .powerOn :: rest ∧ t = { State.powerOn s.cfg with out := s.out, agenda := rest } := by
  obtain ⟨-, rfl⟩ | ⟨e, rest, hagenda, houtcome⟩ := step_cases h
  · exact .inl (.refl _)
  · by_cases htime : ∃ us, e = .advance us
    · obtain ⟨us, rfl⟩ := htime
      rw [step_of_advance hagenda] at h
      cases h
      exact .inr (.inl ⟨us, rest, hagenda, rfl⟩)
    · by_cases hpower : e = .powerOn
      · subst hpower
        rw [step_of_powerOn hagenda] at h
        cases h
        exact .inr (.inr ⟨rest, hagenda, rfl⟩)
      · have hevolves := evolves_outcome houtcome (fun us he => htime ⟨us, he⟩) hpower
        exact .inl ⟨hevolves.cfg, hevolves.now, hevolves.log, hevolves.out⟩

/-- Settles O60: from `step_evolves`, the two other events being told apart by the agenda's head. -/
theorem logOutputsTimeAndParameters : Obligations.LogOutputsTimeAndParameters := by
  refine ⟨fun s t h => ?_, fun s t h => ⟨?_, fun us rest hagenda => ?_, fun htime hpower => ?_, fun hpower => ?_⟩⟩
  · obtain hevolves | ⟨_, _, _, rfl⟩ | ⟨_, hagenda, rfl⟩ := step_evolves h
    · exact ⟨hevolves.out, fun _ => hevolves.log⟩
    · exact ⟨List.prefix_rfl, fun _ => List.prefix_rfl⟩
    · exact ⟨List.prefix_rfl, fun hpower => absurd (by rw [hagenda]; rfl) hpower⟩
  · obtain hevolves | ⟨_, _, _, rfl⟩ | ⟨_, _, rfl⟩ := step_evolves h
    · exact hevolves.cfg
    · rfl
    · rfl
  · rw [step_of_advance hagenda] at h
    cases h
    rfl
  · obtain hevolves | ⟨us, _, hagenda, rfl⟩ | ⟨_, hagenda, rfl⟩ := step_evolves h
    · exact hevolves.now
    · exact absurd (by rw [hagenda]; rfl) (htime us)
    · exact absurd (by rw [hagenda]; rfl) hpower
  · obtain ⟨rest, hagenda⟩ := List.head?_eq_some_iff.mp hpower
    rw [step_of_powerOn hagenda] at h
    cases h
    rfl

/-! ## The mode tables (R399, R432, R433) -/

/-- What the mode tables speak of is as it was. -/
structure SameModes (s t : State) : Prop where
  enabled : t.k.enabled = s.k.enabled
  resets : t.k.resetPending = s.k.resetPending
  level : t.m.level = s.m.level
  streaming : t.m.streaming = s.m.streaming

theorem SameModes.refl (s : State) : SameModes s s := ⟨rfl, rfl, rfl, rfl⟩

theorem SameModes.trans {s t u : State} (h : SameModes s t) (g : SameModes t u) : SameModes s u :=
  ⟨g.enabled.trans h.enabled, g.resets.trans h.resets, g.level.trans h.level, g.streaming.trans h.streaming⟩

theorem sameModes_of_engines {s t : State} (hk : t.k = s.k) (hm : t.m = s.m) : SameModes s t :=
  ⟨by rw [hk], by rw [hk], by rw [hm], by rw [hm]⟩

theorem sameModes_write {s t : State} (h : Write s t) : SameModes s t := by
  cases h with
  | packet | received | txFailed => exact sameModes_of_engines (by simp) (by simp)
  | keyboard k hk => exact ⟨hk.enabled, hk.resets, rfl, rfl⟩
  | mouse m hm => exact ⟨rfl, rfl, hm.level, hm.streaming⟩
  | condition | outputs | devices | parser | codec => exact ⟨rfl, rfl, rfl, rfl⟩

theorem kbdWrites_decodeWire_mouse (prev : Byte) (raw : Frame) (s : State) :
    kbdWrites (decodeWire .mouse prev raw) s = s :=
  decodeWire_mouse_cases (P := fun i => kbdWrites i s = s) prev raw (fun _ => rfl) rfl rfl rfl rfl rfl rfl rfl
    rfl rfl (fun _ _ => rfl) fun _ _ => rfl

theorem mouseWrites_decodeWire_kbd (prev : Byte) (raw : Frame) (s : State) :
    mouseWrites (decodeWire .kbd prev raw) s = s :=
  decodeWire_kbd_cases (P := fun i => mouseWrites i s = s) prev raw (fun _ => rfl) rfl rfl rfl rfl rfl rfl rfl
    rfl rfl rfl (fun _ _ => rfl) (fun _ _ => rfl) (fun _ _ => rfl) fun _ _ => rfl

@[simp] theorem kbdWrites_m (i : Instr) (s : State) : (kbdWrites i s).m = s.m := by rw [kbdWrites_frame]
@[simp] theorem mouseWrites_k (i : Instr) (s : State) : (mouseWrites i s).k = s.k := by rw [mouseWrites_frame]

/-- The engines after a received frame are those of its host writes. -/
theorem received_engines {p : Port} {i : Instr} {x t : State} (h : Received p i x t) :
    t.k = (hostWrites p i x).k ∧ t.m = (hostWrites p i x).m := by
  cases h with
  | parityError raw hi => subst hi; cases p <;> exact ⟨rfl, rfl⟩
  | resend hi => subst hi; cases p <;> exact ⟨rfl, rfl⟩
  | command b _ _ => simp [takeHostByte]

/-- The engines after the frame raw on port p, whose instruction belongs to that port's engine. -/
theorem received_decodeWire_engines {p : Port} {prev : Byte} {raw : Frame} {x t : State}
    (h : Received p (decodeWire p prev raw) x t) :
    t.k = (kbdWrites (decodeWire p prev raw) x).k ∧ t.m = (mouseWrites (decodeWire p prev raw) x).m := by
  obtain ⟨hk, hm⟩ := received_engines h
  rw [hk, hm]
  cases p with
  | kbd =>
    rw [mouseWrites_decodeWire_kbd]
    exact ⟨rfl, kbdWrites_m _ _⟩
  | mouse =>
    rw [kbdWrites_decodeWire_mouse]
    exact ⟨mouseWrites_k _ _, rfl⟩

/-- The engines after an event that takes the host instruction i. -/
theorem outcome_of_hostInstr {e : Event} {s t : State} {i : Instr} (h : Outcome e s t)
    (hi : s.hostInstr e = some i) : ∃ x : State, x.k = s.k ∧ x.m = s.m ∧ x.now = s.now
      ∧ t.k = (kbdWrites i x).k ∧ t.m = (mouseWrites i x).m := by
  have hno {e' : Event} (he : e = e') (hnone : s.hostInstr e' = none) {P : Prop} : P := by
    rw [he, hnone] at hi
    cases hi
  cases h with
  | pollReceived p lineIdle raw more _ he hrx hreceived =>
    subst he
    obtain rfl : decodeWire p (s.t p).lastRx raw = i := by simpa [State.hostInstr, hrx] using hi
    obtain ⟨hk, hm⟩ := received_decodeWire_engines hreceived
    exact ⟨_, by simp, by simp, by simp, hk, hm⟩
  | time us he => exact hno he rfl
  | power he => exact hno he rfl
  | poll p lineIdle he hrx => exact hno he (by simp [State.hostInstr, hrx])
  | kbdResetDone d he => exact hno he rfl
  | writes _ _ _ hpoll _ _ =>
    cases e with
    | poll p lineIdle => exact absurd rfl (hpoll p lineIdle)
    | _ => cases hi

/-- An event that takes no host byte keeps the modes, but for power-on and a due keyboard completion. -/
theorem outcome_sameModes {e : Event} {s t : State} (h : Outcome e s t) (hi : s.hostInstr e = none)
    (hpower : e ≠ .powerOn) (hdone : ∀ d, e = .kbdResetDone d → ¬ (d ∈ s.k.resetPending ∧ d ≤ s.now)) :
    SameModes s t := by
  cases h with
  | time us he => exact ⟨rfl, rfl, rfl, rfl⟩
  | power he => exact absurd he hpower
  | poll p lineIdle => exact sameModes_of_engines (by simp) (by simp)
  | pollReceived p lineIdle raw more _ he hrx hreceived =>
    subst he
    simp [State.hostInstr, hrx] at hi
  | kbdResetDone d he hmem hdue => exact absurd ⟨hmem, hdue⟩ (hdone d he)
  | writes _ _ _ _ _ hwrites => exact hwrites.respect SameModes.refl SameModes.trans sameModes_write

/-- A due completion ends its Reset (R381). -/
theorem outcome_of_kbdResetDone {d : Nat} {s t : State} (h : Outcome (.kbdResetDone d) s t)
    (hmem : d ∈ s.k.resetPending) (hdue : d ≤ s.now) :
    t.k.enabled = true ∧ t.k.resetPending = s.k.resetPending.erase d ∧ t.m = s.m := by
  cases h with
  | time us he => cases he
  | power he => cases he
  | poll p lineIdle he => cases he
  | pollReceived p lineIdle raw more _ he => cases he
  | kbdResetDone d' he =>
    cases he
    exact ⟨rfl, rfl, enqueue_m _ _ _⟩
  | writes _ _ _ _ hdone => exact absurd ⟨hmem, hdue⟩ (hdone d rfl)

@[simp] theorem hostInstr_setAgenda (s : State) (rest : List Event) (e : Event) :
    (s.setAgenda rest).hostInstr e = s.hostInstr e := by
  cases e with
  | poll p lineIdle => cases p <;> rfl
  | _ => rfl

/-- The engines after a step that takes the host instruction i. -/
theorem step_of_hostInstr {s t : State} {e : Event} {rest : List Event} {i : Instr}
    (hagenda : s.agenda = e :: rest) (h : step s = .next t) (hi : s.hostInstr e = some i) :
    ∃ x : State, x.k = s.k ∧ x.m = s.m ∧ x.now = s.now
      ∧ t.k = (kbdWrites i x).k ∧ t.m = (mouseWrites i x).m :=
  outcome_of_hostInstr (s := s.setAgenda rest) (outcome_of_step hagenda h) ((hostInstr_setAgenda _ _ _).trans hi)

/-- A step that takes no host byte keeps the modes, but for power-on and a due keyboard completion. -/
theorem step_sameModes {s t : State} {e : Event} {rest : List Event} (hagenda : s.agenda = e :: rest)
    (h : step s = .next t) (hi : s.hostInstr e = none) (hpower : e ≠ .powerOn)
    (hdone : ∀ d, e = .kbdResetDone d → ¬ (d ∈ s.k.resetPending ∧ d ≤ s.now)) : SameModes s t := by
  have hsame := outcome_sameModes (outcome_of_step hagenda h) ((hostInstr_setAgenda _ _ _).trans hi) hpower hdone
  exact ⟨hsame.enabled, hsame.resets, hsame.level, hsame.streaming⟩

theorem step_of_kbdResetDone {s t : State} {d : Nat} {rest : List Event}
    (hagenda : s.agenda = .kbdResetDone d :: rest) (h : step s = .next t) (hmem : d ∈ s.k.resetPending)
    (hdue : d ≤ s.now) :
    t.k.enabled = true ∧ t.k.resetPending = s.k.resetPending.erase d ∧ t.m = s.m :=
  outcome_of_kbdResetDone (s := s.setAgenda rest) (outcome_of_step hagenda h) hmem hdue

theorem kbdWrites_scanning {i : Instr} (s : State) (henable : i ≠ .kbdEnable) (hdisable : i ≠ .kbdDisable)
    (hreset : i ≠ .kbdReset) : (kbdWrites i s).k.enabled = s.k.enabled
      ∧ (kbdWrites i s).k.resetPending = s.k.resetPending := by
  cases i with
  | kbdEnable => exact absurd rfl henable
  | kbdDisable => exact absurd rfl hdisable
  | kbdReset => exact absurd rfl hreset
  | _ => exact ⟨rfl, rfl⟩

theorem mouseWrites_level {i : Instr} (s : State) (hreset : i ≠ .mouseReset) (hrate : ∀ b, i ≠ .mouseRateParam b) :
    (mouseWrites i s).m.level = s.m.level := by
  cases i with
  | mouseReset => exact absurd rfl hreset
  | mouseRateParam b => exact absurd rfl (hrate b)
  | _ => rfl

theorem mouseWrites_streaming {i : Instr} (s : State) (henable : i ≠ .mouseEnable) (hdisable : i ≠ .mouseDisable)
    (hreset : i ≠ .mouseReset) : (mouseWrites i s).m.streaming = s.m.streaming := by
  cases i with
  | mouseEnable => exact absurd rfl henable
  | mouseDisable => exact absurd rfl hdisable
  | mouseReset => exact absurd rfl hreset
  | _ => rfl

theorem shiftIn_toNat (magic : BitVec 24) (b : Byte) :
    ((magic <<< 8) ||| b.setWidth 24).toNat = (magic.toNat * 256 + b.toNat) % 2 ^ 24 := by
  rw [shiftIn_eq (v := BitVec.ofNat 24 (magic.toNat * 256 + b.toNat)) (BitVec.toNat_ofNat _ _),
    BitVec.toNat_ofNat]

theorem insertDeadline_ne_nil (d : Nat) (l : List Nat) : insertDeadline d l ≠ [] := fun h =>
  absurd (insertDeadline_perm d l) (by rw [h]; simp)

/-- Settles O31: the host bytes by `step_of_hostInstr`, every other event by `step_sameModes`. -/
theorem keyboardModeMachine : Obligations.KeyboardModeMachine := by
  intro s t e rest hagenda hpower hstep
  have henable (hi : s.hostInstr e = some .kbdEnable) :
      t.k.enabled = true ∧ t.k.resetPending = s.k.resetPending := by
    obtain ⟨x, hxk, -, -, hk, -⟩ := step_of_hostInstr hagenda hstep hi
    rw [hk, ← hxk]
    exact ⟨rfl, rfl⟩
  have hdisable (hi : s.hostInstr e = some .kbdDisable) :
      t.k.enabled = false ∧ t.k.resetPending = s.k.resetPending := by
    obtain ⟨x, hxk, -, -, hk, -⟩ := step_of_hostInstr hagenda hstep hi
    rw [hk, ← hxk]
    exact ⟨rfl, rfl⟩
  refine ⟨henable, hdisable, fun hi => ?_, fun d he hmem hdue => ?_, fun hi hdone => ?_,
    fun hnone hi => ?_, fun hnone hi => ?_⟩
  · obtain ⟨x, -, -, -, hk, -⟩ := step_of_hostInstr hagenda hstep hi
    rw [hk]
    exact ⟨rfl, if_pos (insertDeadline_ne_nil _ _)⟩
  · subst he
    obtain ⟨hon, hpending, -⟩ := step_of_kbdResetDone hagenda hstep hmem hdue
    exact ⟨hon, hpending, fun hlast => by simp [Keyboard.mode, hon, hpending, hlast]⟩
  · obtain ⟨henabled, hpending⟩ : t.k.enabled = s.k.enabled ∧ t.k.resetPending = s.k.resetPending := by
      cases hinstr : s.hostInstr e with
      | none =>
        have hmodes := step_sameModes hagenda hstep hinstr hpower fun d he => absurd he (hdone d)
        exact ⟨hmodes.enabled, hmodes.resets⟩
      | some i =>
        obtain ⟨x, hxk, -, -, hk, -⟩ := step_of_hostInstr hagenda hstep hinstr
        rw [hinstr] at hi
        rw [hk, ← hxk]
        exact kbdWrites_scanning x (by rintro rfl; simp at hi) (by rintro rfl; simp at hi)
          (by rintro rfl; simp at hi)
    exact ⟨by rw [Keyboard.mode, Keyboard.mode, henabled, hpending], henabled⟩
  · obtain ⟨hon, hpending⟩ := henable hi
    simp [Keyboard.mode, hon, hpending, hnone]
  · obtain ⟨hoff, hpending⟩ := hdisable hi
    simp [Keyboard.mode, hoff, hpending, hnone]

/-- Settles O36: the magic register and the level by their laws (R425). -/
theorem mouseLevelMachine : Obligations.MouseLevelMachine := by
  intro s t e rest hagenda hpower hstep
  refine ⟨fun hi => ?_, fun b hi => ?_, fun hreset hrate => ?_⟩
  · obtain ⟨x, -, -, -, -, hm⟩ := step_of_hostInstr hagenda hstep hi
    rw [hm]
    rfl
  · obtain ⟨x, -, hxm, -, -, hm⟩ := step_of_hostInstr hagenda hstep hi
    rw [hm, ← hxm]
    exact ⟨shiftIn_toNat _ _, upgradedLevel_eq _ _⟩
  · cases hinstr : s.hostInstr e with
    | none =>
      by_cases hdue : ∃ d, e = .kbdResetDone d ∧ d ∈ s.k.resetPending ∧ d ≤ s.now
      · obtain ⟨d, rfl, hmem, hdue⟩ := hdue
        obtain ⟨-, -, hm⟩ := step_of_kbdResetDone hagenda hstep hmem hdue
        rw [hm]
      · exact (step_sameModes hagenda hstep hinstr hpower fun d he hd => hdue ⟨d, he, hd⟩).level
    | some i =>
      obtain ⟨x, -, hxm, -, -, hm⟩ := step_of_hostInstr hagenda hstep hinstr
      rw [hinstr] at hreset hrate
      rw [hm, ← hxm]
      exact mouseWrites_level x (by simpa using hreset) (by simpa using hrate)

/-- Settles O37: the host bytes by `step_of_hostInstr`, every other event by `step_sameModes`. -/
theorem streamingMachine : Obligations.StreamingMachine := by
  refine ⟨⟨rfl, rfl⟩, fun s t e rest hagenda hpower hstep => ⟨fun hi => ?_, fun hi => ?_, fun hi => ?_⟩⟩
  · obtain ⟨x, -, hxm, hxnow, -, hm⟩ := step_of_hostInstr hagenda hstep hi
    rw [hm, ← hxm, ← hxnow]
    exact ⟨rfl, rfl⟩
  · obtain hi | hi : s.hostInstr e = some .mouseDisable ∨ s.hostInstr e = some .mouseReset := by simpa using hi
    · obtain ⟨x, -, -, -, -, hm⟩ := step_of_hostInstr hagenda hstep hi
      rw [hm]
      exact ⟨rfl, rfl⟩
    · obtain ⟨x, -, -, -, -, hm⟩ := step_of_hostInstr hagenda hstep hi
      rw [hm]
      exact ⟨rfl, rfl⟩
  · cases hinstr : s.hostInstr e with
    | none =>
      by_cases hdue : ∃ d, e = .kbdResetDone d ∧ d ∈ s.k.resetPending ∧ d ≤ s.now
      · obtain ⟨d, rfl, hmem, hdue⟩ := hdue
        obtain ⟨-, -, hm⟩ := step_of_kbdResetDone hagenda hstep hmem hdue
        rw [hm]
      · exact (step_sameModes hagenda hstep hinstr hpower fun d he hd => hdue ⟨d, he, hd⟩).streaming
    | some i =>
      obtain ⟨x, -, hxm, -, -, hm⟩ := step_of_hostInstr hagenda hstep hinstr
      rw [hinstr] at hi
      rw [hm, ← hxm]
      exact mouseWrites_streaming x (by rintro rfl; simp at hi) (by rintro rfl; simp at hi)
        (by rintro rfl; simp at hi)

/-! ## The backoff (R231, R563) -/

/-- Port p's deadline and last sent byte are as they were. -/
structure SameTx (p : Port) (s t : State) : Prop where
  busy : (t.t p).busyUntil = (s.t p).busyUntil
  last : (t.t p).lastTx = (s.t p).lastTx

theorem SameTx.refl (p : Port) (s : State) : SameTx p s s := ⟨rfl, rfl⟩

theorem SameTx.trans {p : Port} {s t u : State} (h : SameTx p s t) (g : SameTx p t u) : SameTx p s u :=
  ⟨g.busy.trans h.busy, g.last.trans h.last⟩

theorem sameTx_of_t {p : Port} {s t : State} (h : t.t p = s.t p) : SameTx p s t := ⟨by rw [h], by rw [h]⟩

/-- A write of port q's transceiver that leaves its deadline and its last sent byte. -/
theorem sameTx_setT {p q : Port} {s : State} {x : Transceiver} (hbusy : x.busyUntil = (s.t q).busyUntil)
    (hlast : x.lastTx = (s.t q).lastTx) : SameTx p s (s.setT q x) := by
  by_cases h : q = p
  · subst h
    exact ⟨by simpa using hbusy, by simpa using hlast⟩
  · exact sameTx_of_t (State.setT_t_other s q p x h)

theorem sameTx_raise (p : Port) (s : State) (c : Condition) : SameTx p s (s.raise c) := sameTx_of_t (by simp)
theorem sameTx_countDrop (p q : Port) (s : State) : SameTx p s (s.countDrop q) := sameTx_setT rfl rfl
theorem sameTx_flush (p q : Port) (s : State) : SameTx p s (s.flush q) := sameTx_setT rfl rfl
theorem sameTx_setLastRx (p q : Port) (b : Byte) (s : State) : SameTx p s (s.setLastRx q b) := sameTx_setT rfl rfl

theorem sameTx_enqueue (p q : Port) (bytes : List Byte) (s : State) : SameTx p s (enqueue q bytes s) := by
  obtain ⟨h, -⟩ | ⟨c, h⟩ := enqueue_cases q bytes s
  · rw [h]
    exact sameTx_setT rfl rfl
  · rw [h]
    exact (sameTx_countDrop p q s).trans (sameTx_raise p _ c)

theorem sameTx_write {p : Port} {s t : State} (h : Write s t) : SameTx p s t := by
  cases h with
  | packet q bytes => exact sameTx_enqueue p q bytes s
  | txFailed q => exact sameTx_setT rfl rfl
  | received q f => exact sameTx_of_t (by simp)
  | condition | outputs | keyboard | mouse | devices | parser | codec => exact sameTx_of_t (by cases p <;> rfl)

theorem sameTx_received {p q : Port} {i : Instr} {x t : State} (h : Received q i x t) : SameTx p x t := by
  cases h with
  | parityError raw | resend => exact sameTx_of_t (by cases p <;> rfl)
  | command b _ _ => exact (((sameTx_of_t (hostWrites_t q p i x)).trans (sameTx_flush p q _)).trans
      (sameTx_enqueue p q _ _)).trans (sameTx_setLastRx p q b _)

theorem sameTx_pollRecover (p q : Port) (s : State) : SameTx p s (pollRecover q s) := by
  obtain ⟨h, -⟩ | ⟨h, -⟩ := pollRecover_cases q s
  · rw [h]
    exact .refl p s
  · rw [h]
    refine SameTx.trans (t := s.setT q _) (sameTx_setT ?_ ?_) (sameTx_raise p _ _)
    · rfl
    · rfl

/-- Port p has sent the next byte of its head packet, its old deadline having passed. -/
structure ByteSent (p : Port) (s t : State) : Prop where
  eligible : (s.t p).busyUntil ≤ s.now
  deadline : (t.t p).busyUntil = s.now + s.cfg.backoffUs
  byte : ∃ pk q, (s.t p).queue = pk :: q ∧ (t.t p).lastTx ∈ pk
  output : t.out = s.out ++ [.phyTx p (encodeFrame (t.t p).lastTx)]

theorem pollTransmit_tx (p q : Port) (lineIdle : Bool) (s : State) :
    SameTx p s (pollTransmit q lineIdle s)
    ∨ (q = p ∧ lineIdle = true ∧ ByteSent p s (pollTransmit q lineIdle s)) := by
  obtain h | ⟨pk, rest, b, hqueue, hb, ⟨hbusy, hidle⟩, h⟩ | ⟨_, _, -, -, -, h⟩ := pollTransmit_cases q lineIdle s
  · rw [h]
    exact .inl (.refl p s)
  · rw [h]
    by_cases hq : q = p
    · subst hq
      exact .inr ⟨rfl, hidle, hbusy, by simp [sendNext, State.sendByte],
        ⟨pk, rest, hqueue, by simpa [sendNext, State.sendByte] using List.mem_of_getElem? hb⟩,
        by simp [sendNext, State.sendByte]⟩
    · exact .inl (sameTx_of_t (by simp [sendNext, State.sendByte, State.setT_t_other _ _ _ _ hq]))
  · rw [h]
    exact .inl (sameTx_setT rfl rfl)

theorem pollRecover_queue (p : Port) (s : State) : ((pollRecover p s).t p).queue = (s.t p).queue := by
  obtain ⟨h, -⟩ | ⟨h, -⟩ := pollRecover_cases p s <;> simp [h]

theorem transmitted_tx (p q : Port) (lineIdle : Bool) (s : State) :
    SameTx p s (transmitted q lineIdle s)
    ∨ (q = p ∧ lineIdle = true ∧ ByteSent p s (transmitted q lineIdle s)) := by
  have hrecover := sameTx_pollRecover p q s
  obtain hsame | ⟨rfl, hidle, hsent⟩ := pollTransmit_tx p q lineIdle (pollRecover q s)
  · exact .inl (hrecover.trans hsame)
  · refine .inr ⟨rfl, hidle, ?_, ?_, ?_, ?_⟩
    · simpa [hrecover.busy] using hsent.eligible
    · simpa using hsent.deadline
    · simpa [pollRecover_queue] using hsent.byte
    · simpa using hsent.output

/-- All that an event but power-on does to a port's deadline and last sent byte. -/
theorem outcome_tx (p : Port) {e : Event} {s t : State} (h : Outcome e s t) (hpower : e ≠ .powerOn) :
    SameTx p s t ∨ (e = .poll p true ∧ ∃ x, ByteSent p s x ∧ SameTx p x t ∧ Evolves x t) := by
  cases h with
  | time us he => exact .inl (sameTx_of_t (by simp))
  | power he => exact absurd he hpower
  | poll q lineIdle he =>
    obtain hsame | ⟨rfl, rfl, hsent⟩ := transmitted_tx p q lineIdle s
    · exact .inl hsame
    · exact .inr ⟨he, _, hsent, .refl _ _, .refl _⟩
  | pollReceived q lineIdle raw more _ he _ hreceived =>
    have hafter : SameTx p (transmitted q lineIdle s) t :=
      (sameTx_of_t (State.setRx_t _ q p more)).trans (sameTx_received hreceived)
    obtain hsame | ⟨rfl, rfl, hsent⟩ := transmitted_tx p q lineIdle s
    · exact .inl (hsame.trans hafter)
    · exact .inr ⟨he, _, hsent, hafter, (evolves_setRx _ _ more).trans (evolves_received hreceived)⟩
  | kbdResetDone d => exact .inl ((sameTx_enqueue p .kbd _ s).trans (sameTx_of_t (State.setK_t _ _ p)))
  | writes _ _ _ _ _ hwrites => exact .inl (hwrites.respect (SameTx.refl p) SameTx.trans sameTx_write)

/-- Settles O22. -/
theorem sendsKeepTheBackoff : Obligations.SendsKeepTheBackoff := by
  intro s t p hstep hpower
  obtain ⟨-, rfl⟩ | ⟨e, rest, hagenda, houtcome⟩ := step_cases hstep
  · exact .inl ⟨rfl, rfl⟩
  · rw [hagenda] at hpower ⊢
    obtain hsame | ⟨rfl, x, hsent, hafter, hevolves⟩ := outcome_tx p houtcome (by simpa using hpower)
    · exact .inl ⟨by simpa using hsame.busy, by simpa using hsame.last⟩
    · refine .inr ⟨rfl, by simpa using hsent.eligible, ?_, ?_, ?_⟩
      · simpa [hafter.busy] using hsent.deadline
      · simpa [hafter.last] using hsent.byte
      · have hout := hevolves.out
        rw [hsent.output, ← hafter.last] at hout
        exact hout

end Sys2Proof.Proofs
end

section
/-! The invariant of 10_state (R33 to R55): each write keeps it, so every step does. -/

namespace Sys2Proof.Proofs

open Sys2Proof Sys2Proof.Machine

/-! ## One rule per write of the state -/

theorem inv_t {s : State} (h : Inv s) (p : Port) : (s.t p).Ok s.cfg.queueCap := by
  cases p with
  | kbd => exact h.t0_ok
  | mouse => exact h.t1_ok

theorem inv_setT {s : State} {p : Port} {x : Transceiver} (h : Inv s) (hx : x.Ok s.cfg.queueCap) :
    Inv (s.setT p x) := by
  cases p with
  | kbd => exact ⟨h.cfg_ok, hx, h.t1_ok, h.k_ok, h.m_ok, h.dev_ok, h.parser_ok⟩
  | mouse => exact ⟨h.cfg_ok, h.t0_ok, hx, h.k_ok, h.m_ok, h.dev_ok, h.parser_ok⟩

theorem inv_setRx {s : State} (h : Inv s) (p : Port) (f : List Frame) : Inv (s.setRx p f) := by
  cases p with
  | kbd | mouse => exact ⟨h.cfg_ok, h.t0_ok, h.t1_ok, h.k_ok, h.m_ok, h.dev_ok, h.parser_ok⟩

theorem inv_setK {s : State} {k : Keyboard} (h : Inv s) (hk : k.Ok s.cfg) : Inv (s.setK k) :=
  ⟨h.cfg_ok, h.t0_ok, h.t1_ok, hk, h.m_ok, h.dev_ok, h.parser_ok⟩

theorem inv_setM {s : State} {m : Mouse} (h : Inv s) (hm : m.Ok) : Inv (s.setM m) :=
  ⟨h.cfg_ok, h.t0_ok, h.t1_ok, h.k_ok, hm, h.dev_ok, h.parser_ok⟩

theorem inv_setDev {s : State} {d : List HidInstance} (h : Inv s) (hd : DeviceTableOk s.cfg.deviceMax d) :
    Inv (s.setDev d) :=
  ⟨h.cfg_ok, h.t0_ok, h.t1_ok, h.k_ok, h.m_ok, hd, h.parser_ok⟩

theorem inv_setParser {s : State} {q : Parser} (h : Inv s) (hq : q.Ok) : Inv (s.setParser q) :=
  ⟨h.cfg_ok, h.t0_ok, h.t1_ok, h.k_ok, h.m_ok, h.dev_ok, hq⟩

/-- The invariant does not speak of time, log, outputs, codec and agenda. -/
theorem inv_of_rest {s : State} (h : Inv s) (now : Nat) (log : List LogRecord) (out : List Output)
    (codec : Option CodecResult) (agenda : List Event) :
    Inv { s with now := now, log := log, out := out, codec := codec, agenda := agenda } :=
  ⟨h.cfg_ok, h.t0_ok, h.t1_ok, h.k_ok, h.m_ok, h.dev_ok, h.parser_ok⟩

theorem inv_raise {s : State} (h : Inv s) (c : Condition) : Inv (s.raise c) := inv_of_rest h _ _ _ _ _

theorem inv_sendByte {s : State} (h : Inv s) (p : Port) (b : Byte) : Inv (s.sendByte p b) :=
  inv_of_rest h _ _ _ _ _

/-! ## The transceiver (R33, R221, R230, R231, R235) -/

section Transceiver

variable {cap : Nat} {t : Transceiver} (h : t.Ok cap)
include h

theorem transceiverOk_push {pk : List Byte} (hroom : t.queue.length ≠ cap) (hpos : 1 ≤ pk.length)
    (hmax : pk.length ≤ packetMax) : ({ t with queue := t.queue ++ [pk] } : Transceiver).Ok cap where
  queue_le := by
    have hle := h.queue_le
    simp only [List.length_append, List.length_cons, List.length_nil]
    omega
  packets pk' hpk' := by
    obtain hold | rfl : pk' ∈ t.queue ∨ pk' = pk := by simpa using hpk'
    · exact h.packets pk' hold
    · exact ⟨hpos, hmax⟩
  sent_le := by
    have hsent := h.sent_le
    cases hq : t.queue with
    | nil =>
      rw [hq] at hsent
      exact hsent.trans (Nat.zero_le _)
    | cons head rest => simpa [hq] using hsent
  lastRx_ne := h.lastRx_ne

theorem transceiverOk_drop (n : Nat) : ({ t with drops := n } : Transceiver).Ok cap :=
  ⟨h.queue_le, h.packets, h.sent_le, h.lastRx_ne⟩

theorem transceiverOk_failLatch (b : Bool) : ({ t with failLatch := b } : Transceiver).Ok cap :=
  ⟨h.queue_le, h.packets, h.sent_le, h.lastRx_ne⟩

theorem transceiverOk_recover (b : Bool) :
    ({ t with bytesSent := t.bytesSent - 1, failLatch := b } : Transceiver).Ok cap :=
  ⟨h.queue_le, h.packets, (Nat.sub_le _ _).trans h.sent_le, h.lastRx_ne⟩

theorem transceiverOk_send {pk : List Byte} {q : List (List Byte)} (hqueue : t.queue = pk :: q)
    (hlt : t.bytesSent < pk.length) (b : Byte) (d : Nat) :
    ({ t with bytesSent := t.bytesSent + 1, lastTx := b, busyUntil := d } : Transceiver).Ok cap :=
  ⟨h.queue_le, h.packets, by simpa [hqueue] using hlt, h.lastRx_ne⟩

theorem transceiverOk_pop : ({ t with queue := t.queue.tail, bytesSent := 0 } : Transceiver).Ok cap where
  queue_le := by
    rw [List.length_tail]
    exact (Nat.sub_le _ _).trans h.queue_le
  packets pk hpk := h.packets pk (List.mem_of_mem_tail hpk)
  sent_le := Nat.zero_le _
  lastRx_ne := h.lastRx_ne

theorem transceiverOk_flush : ({ t with queue := [], bytesSent := 0 } : Transceiver).Ok cap :=
  ⟨Nat.zero_le _, fun _ hpk => absurd hpk List.not_mem_nil, Nat.zero_le _, h.lastRx_ne⟩

theorem transceiverOk_lastRx {b : Byte} (hb : b ≠ 0xFE#8) : ({ t with lastRx := b } : Transceiver).Ok cap :=
  ⟨h.queue_le, h.packets, h.sent_le, hb⟩

end Transceiver

theorem inv_enqueue {s : State} (h : Inv s) (p : Port) (bytes : List Byte) : Inv (enqueue p bytes s) := by
  obtain ⟨heq, hpos, hmax, hroom⟩ | ⟨c, heq⟩ := enqueue_cases p bytes s
  · rw [heq]
    exact inv_setT h (transceiverOk_push (inv_t h p) hroom hpos hmax)
  · rw [heq]
    exact inv_raise (inv_setT h (transceiverOk_drop (inv_t h p) _)) c

theorem inv_pollRecover {s : State} (h : Inv s) (p : Port) : Inv (pollRecover p s) := by
  obtain ⟨heq, -⟩ | ⟨heq, -⟩ := pollRecover_cases p s
  · rwa [heq]
  · rw [heq]
    exact inv_raise (inv_setT h (transceiverOk_recover (inv_t h p) false)) _

theorem inv_pollTransmit {s : State} (h : Inv s) (p : Port) (lineIdle : Bool) :
    Inv (pollTransmit p lineIdle s) := by
  obtain heq | ⟨pk, q, b, hqueue, hb, -, heq⟩ | ⟨pk, q, -, -, -, heq⟩ := pollTransmit_cases p lineIdle s
  · rwa [heq]
  · obtain ⟨hlt, -⟩ := List.getElem?_eq_some_iff.mp hb
    rw [heq]
    exact inv_sendByte (inv_setT h (transceiverOk_send (inv_t h p) hqueue hlt b _)) p b
  · rw [heq]
    exact inv_setT h (transceiverOk_pop (inv_t h p))

/-! ## The engines (R36 to R41, R376 to R381, R426 to R431) -/

theorem vector_get_mem {α : Type} {n : Nat} (v : Vector α n) (i : Fin n) : v.get i ∈ v.toList := by
  simp [Vector.get]

theorem keyboardOk_kbdWrites {s : State} (hc : ParamsOk s.cfg) (h : s.k.Ok s.cfg) (i : Instr) :
    (kbdWrites i s).k.Ok s.cfg := by
  have hdelay (j : Fin 4) := vector_get_mem s.cfg.typematicDelayMs j
  have hinterval (j : Fin 32) := vector_get_mem s.cfg.typematicIntervalUs j
  cases i with
  | kbdLedParam b =>
    exact ⟨h.repeat_iff, h.repeat_entry, h.delay_mem, h.interval_mem, hc.led_low _, h.resets_sorted⟩
  | kbdTypematicParam b =>
    exact ⟨h.repeat_iff, h.repeat_entry, hdelay _, hinterval _, h.led_low, h.resets_sorted⟩
  | kbdEnable => exact ⟨h.repeat_iff, h.repeat_entry, h.delay_mem, h.interval_mem, h.led_low, h.resets_sorted⟩
  | kbdDisable =>
    exact ⟨by simp [kbdWrites], by simp [kbdWrites], hdelay _, hinterval _, h.led_low, h.resets_sorted⟩
  | kbdSetDefaults => exact ⟨h.repeat_iff, h.repeat_entry, hdelay _, hinterval _, h.led_low, h.resets_sorted⟩
  | kbdReset =>
    exact ⟨by simp [kbdWrites], by simp [kbdWrites], hdelay _, hinterval _, by simp [kbdWrites],
      insertDeadline_sorted _ _ h.resets_sorted⟩
  | _ => exact h

theorem mouseOk_mouseWrites {s : State} (h : s.m.Ok) (i : Instr) : (mouseWrites i s).m.Ok := by
  cases i with
  | mouseReadData => exact ⟨h.tick_iff, h.rate_ne, h.buttons_low, h.resets_sorted⟩
  | mouseRateParam b =>
    refine ⟨h.tick_iff, ?_, h.buttons_low, h.resets_sorted⟩
    exact ite_cases (P := fun r => r ≠ 0x00#8) id fun _ => h.rate_ne
  | mouseEnable => exact ⟨rfl, h.rate_ne, h.buttons_low, h.resets_sorted⟩
  | mouseDisable => exact ⟨rfl, h.rate_ne, h.buttons_low, h.resets_sorted⟩
  | mouseSetDefaults => exact ⟨h.tick_iff, by simp [mouseWrites], h.buttons_low, h.resets_sorted⟩
  | mouseReset =>
    exact ⟨rfl, by simp [mouseWrites], by simp [mouseWrites], insertDeadline_sorted _ _ h.resets_sorted⟩
  | mouseOther b => exact ⟨h.tick_iff, h.rate_ne, h.buttons_low, h.resets_sorted⟩
  | _ => exact h

theorem inv_hostWrites {s : State} (h : Inv s) (p : Port) (i : Instr) : Inv (hostWrites p i s) := by
  cases p with
  | kbd =>
    rw [hostWrites, kbdWrites_frame]
    exact inv_setK (k := (kbdWrites i s).k) (inv_of_rest h s.now (kbdWrites i s).log s.out s.codec s.agenda)
      (keyboardOk_kbdWrites h.cfg_ok h.k_ok i)
  | mouse =>
    rw [hostWrites, mouseWrites_frame]
    exact inv_setM (m := (mouseWrites i s).m) (inv_of_rest h s.now (mouseWrites i s).log s.out s.codec s.agenda)
      (mouseOk_mouseWrites h.m_ok i)

theorem inv_received {p : Port} {i : Instr} {x t : State} (hx : Inv x) (h : Received p i x t) : Inv t := by
  cases h with
  | parityError raw => exact inv_raise (inv_sendByte hx p _) _
  | resend => exact inv_raise (inv_sendByte hx p _) _
  | command b hb _ =>
    have hwrites := inv_hostWrites hx p i
    have hflush : Inv ((hostWrites p i x).flush p) := inv_setT hwrites (transceiverOk_flush (inv_t hwrites p))
    have hreply := inv_enqueue hflush p (hostReply i x)
    exact inv_setT hreply (transceiverOk_lastRx (inv_t hreply p) hb)

/-- A due completion ends its Reset (R381). -/
theorem keyboardOk_resetDone {c : Params} {k : Keyboard} (h : k.Ok c) (d : Nat) : ({ k with
    resetPending := k.resetPending.erase d, enabled := true, ledByte := 0x00#8, ledSyncPending := true }
    : Keyboard).Ok c :=
  ⟨h.repeat_iff, h.repeat_entry, h.delay_mem, h.interval_mem, by simp, h.resets_sorted.sublist List.erase_sublist⟩

/-! ## Power-on (R551) -/

theorem transceiverOk_powerOn {cap : Nat} {bat : List (List Byte)} (hlen : bat.length ≤ cap)
    (hbat : ∀ pk ∈ bat, 1 ≤ pk.length ∧ pk.length ≤ packetMax) : (Transceiver.powerOn bat).Ok cap :=
  ⟨hlen, hbat, Nat.zero_le _, by simp [Transceiver.powerOn]⟩

/-- A queue with the self-test packet, or an empty one. -/
theorem transceiverOk_bat {cap : Nat} (hcap : 0 < cap) {pk : List Byte} (hpos : 1 ≤ pk.length)
    (hmax : pk.length ≤ packetMax) (bat : Bool) :
    (Transceiver.powerOn (if bat then [pk] else [])).Ok cap := by
  cases bat with
  | true => exact transceiverOk_powerOn hcap (by simpa using ⟨hpos, hmax⟩)
  | false => exact transceiverOk_powerOn (Nat.zero_le _) (by simp)

theorem keyboardOk_powerOn (c : Params) : (Keyboard.powerOn c).Ok c :=
  ⟨by simp [Keyboard.powerOn], by simp [Keyboard.powerOn], vector_get_mem _ _, vector_get_mem _ _,
    by simp [Keyboard.powerOn], .nil⟩

theorem mouseOk_powerOn : Mouse.powerOn.Ok := ⟨rfl, by simp [Mouse.powerOn, sampleRateDefault], rfl, .nil⟩

/-- No free slot is valid (R551). -/
theorem deviceTableOk_free (n : Nat) : DeviceTableOk n (List.replicate n HidInstance.free) where
  size := List.length_replicate
  valid_ok d hd hvalid := by
    rw [List.eq_of_mem_replicate hd] at hvalid
    cases hvalid
  keys_distinct i j a b ha _ hvalid := by
    rw [List.eq_of_mem_replicate (List.mem_of_getElem? ha)] at hvalid
    cases hvalid

theorem inv_powerOn {c : Params} (h : ParamsOk c) : Inv (State.powerOn c) where
  cfg_ok := h
  t0_ok := transceiverOk_bat h.queueCap_pos (by simp) (by simp [packetMax]) _
  t1_ok := transceiverOk_bat h.queueCap_pos (by simp) (by simp [packetMax]) _
  k_ok := keyboardOk_powerOn c
  m_ok := mouseOk_powerOn
  dev_ok := deviceTableOk_free c.deviceMax
  parser_ok := parserOk_init

theorem paramsOk_default : ParamsOk defaultParams := ⟨by decide, by decide +kernel, by decide⟩

/-- Settles O56: the defaults are in order, and power-on with parameters in order satisfies Inv. -/
theorem resetSatisfiesInvariant : Obligations.ResetSatisfiesInvariant := inv_powerOn paramsOk_default

/-! ## Every step -/

theorem inv_write {s t : State} (h : Write s t) (hs : Inv s) : Inv t := by
  cases h with
  | packet p bytes => exact inv_enqueue hs p bytes
  | condition c => exact inv_raise hs c
  | outputs os => exact inv_of_rest hs _ _ _ _ _
  | received p f => exact inv_setRx hs p f
  | txFailed p => exact inv_setT hs (transceiverOk_failLatch (inv_t hs p) true)
  | keyboard k hk => exact inv_setK hs (hk.ok hs.cfg_ok hs.k_ok)
  | mouse m hm => exact inv_setM hs (hm.ok hs.m_ok)
  | devices d hd => exact inv_setDev hs (hd _ hs.dev_ok)
  | parser q hq => exact inv_setParser hs (hq hs.parser_ok)
  | codec c => exact inv_of_rest hs _ _ _ _ _

theorem inv_writes {s t : State} (h : Writes s t) (hs : Inv s) : Inv t :=
  h.respect (R := fun s t => Inv s → Inv t) (fun _ => id) (fun h g => g ∘ h) inv_write hs

theorem inv_outcome {e : Event} {s t : State} (h : Outcome e s t) (hs : Inv s) : Inv t := by
  cases h with
  | time us => exact inv_of_rest hs _ _ _ _ _
  | power => exact inv_of_rest (inv_powerOn hs.cfg_ok) _ _ _ _ _
  | poll p lineIdle => exact inv_pollTransmit (inv_pollRecover hs p) p lineIdle
  | pollReceived p lineIdle raw more _ _ _ hreceived =>
    exact inv_received (inv_setRx (inv_pollTransmit (inv_pollRecover hs p) p lineIdle) p more) hreceived
  | kbdResetDone d =>
    exact inv_setK (inv_enqueue hs _ _) (by simpa using keyboardOk_resetDone hs.k_ok d)
  | writes _ _ _ _ _ hwrites => exact inv_writes hwrites hs

/-- Settles O57: an event's outcome keeps Inv, write by write. -/
theorem stepKeepsInvariant : Obligations.StepKeepsInvariant := by
  intro s t hs hstep
  obtain ⟨-, rfl⟩ | ⟨e, rest, -, houtcome⟩ := step_cases hstep
  · exact hs
  · exact inv_outcome houtcome (inv_of_rest hs s.now s.log s.out s.codec rest)

end Sys2Proof.Proofs
end

section
/-! The condition log is never read (R56, R500): two states that differ only in the log do the same, operation by
operation. -/

namespace Sys2Proof.Proofs

open Sys2Proof Sys2Proof.Machine

/-! ## Equal but for the log -/

theorem sameButLog_iff {s t : State} : SameButLog s t ↔ ∃ l, t = { s with log := l } := by
  refine ⟨fun h => ⟨t.log, ?_⟩, ?_⟩
  · have hrest : { s with log := [] } = { t with log := [] } := h
    exact (congrArg (fun x : State => { x with log := t.log }) hrest).symm
  · rintro ⟨l, rfl⟩
    rfl

section Fields

variable {s t : State} (h : SameButLog s t)
include h

/-- What does not depend on the log is the same. -/
theorem sameButLog_field {α : Type} (f : State → α) (hf : ∀ x : State, f x.withoutLog = f x) : f s = f t := by
  rw [← hf s, ← hf t]
  exact congrArg f h

theorem sameButLog_cfg : s.cfg = t.cfg := sameButLog_field h State.cfg fun _ => rfl
theorem sameButLog_now : s.now = t.now := sameButLog_field h State.now fun _ => rfl
theorem sameButLog_k : s.k = t.k := sameButLog_field h State.k fun _ => rfl
theorem sameButLog_m : s.m = t.m := sameButLog_field h State.m fun _ => rfl
theorem sameButLog_dev : s.dev = t.dev := sameButLog_field h State.dev fun _ => rfl
theorem sameButLog_agenda : s.agenda = t.agenda := sameButLog_field h State.agenda fun _ => rfl

theorem sameButLog_t (p : Port) : s.t p = t.t p := by
  cases p with
  | kbd => exact sameButLog_field h State.t0 fun _ => rfl
  | mouse => exact sameButLog_field h State.t1 fun _ => rfl

theorem sameButLog_rx (p : Port) : s.rx p = t.rx p := by
  cases p with
  | kbd => exact sameButLog_field h State.rx0 fun _ => rfl
  | mouse => exact sameButLog_field h State.rx1 fun _ => rfl

/-! ## One rule per write of the state -/

theorem sameButLog_raise (c c' : Condition) : SameButLog (s.raise c) (t.raise c') := h

theorem sameButLog_setK (k : Keyboard) : SameButLog (s.setK k) (t.setK k) :=
  congrArg (fun x : State => x.setK k) h

theorem sameButLog_setM (m : Mouse) : SameButLog (s.setM m) (t.setM m) := congrArg (fun x : State => x.setM m) h

theorem sameButLog_setDev (d : List HidInstance) : SameButLog (s.setDev d) (t.setDev d) :=
  congrArg (fun x : State => x.setDev d) h

theorem sameButLog_setParser (q : Parser) : SameButLog (s.setParser q) (t.setParser q) :=
  congrArg (fun x : State => x.setParser q) h

theorem sameButLog_setAgenda (a : List Event) : SameButLog (s.setAgenda a) (t.setAgenda a) :=
  congrArg (fun x : State => x.setAgenda a) h

theorem sameButLog_emits (os : List Output) :
    SameButLog { s with out := s.out ++ os } { t with out := t.out ++ os } := by
  obtain ⟨l, rfl⟩ := sameButLog_iff.mp h
  rfl

theorem sameButLog_setT (p : Port) (x : Transceiver) : SameButLog (s.setT p x) (t.setT p x) := by
  cases p with
  | kbd => exact congrArg (fun y : State => y.setT .kbd x) h
  | mouse => exact congrArg (fun y : State => y.setT .mouse x) h

theorem sameButLog_setRx (p : Port) (f : List Frame) : SameButLog (s.setRx p f) (t.setRx p f) := by
  cases p with
  | kbd => exact congrArg (fun y : State => y.setRx .kbd f) h
  | mouse => exact congrArg (fun y : State => y.setRx .mouse f) h

theorem sameButLog_enqueue (p : Port) (bytes : List Byte) : SameButLog (enqueue p bytes s) (enqueue p bytes t) := by
  rw [SameButLog, enqueue_withoutLog, enqueue_withoutLog p bytes t, h]

end Fields

/-- A choice whose condition does not depend on the log. -/
theorem sameButLog_ite {c c' : Prop} [Decidable c] [Decidable c'] {x y x' y' : State} (hc : c ↔ c')
    (hx : SameButLog x x') (hy : SameButLog y y') :
    SameButLog (if c then x else y) (if c' then x' else y') := by
  by_cases h : c
  · rw [if_pos h, if_pos (hc.mp h)]
    exact hx
  · rw [if_neg h, if_neg (mt hc.mpr h)]
    exact hy

/-- Both answer, and with states that are equal but for the log. -/
def Together (r r' : StepResult) : Prop := ∃ s t, r = .next s ∧ r' = .next t ∧ SameButLog s t

theorem together_next {s t : State} (h : SameButLog s t) : Together (.next s) (.next t) := ⟨s, t, rfl, rfl, h⟩

variable {s t : State} (h : SameButLog s t)

/-! ## Key transitions and movement -/

section Engines

include h

theorem sameButLog_modifierTransition (u : Byte) (pressed : Bool) :
    SameButLog (modifierTransition u pressed s) (modifierTransition u pressed t) := by
  obtain ⟨l, rfl⟩ := sameButLog_iff.mp h
  cases hon : s.k.enabled with
  | false => rw [modifierTransition_of_disabled hon, modifierTransition_of_disabled (by exact hon)]; rfl
  | true =>
    rw [modifierTransition_of_enabled hon, modifierTransition_of_enabled (by exact hon)]
    exact sameButLog_setK (sameButLog_enqueue h _ _) _

theorem sameButLog_pauseTransition (pressed : Bool) :
    SameButLog (pauseTransition pressed s) (pauseTransition pressed t) := by
  unfold pauseTransition
  rw [sameButLog_k h]
  exact sameButLog_ite Iff.rfl (sameButLog_ite Iff.rfl (sameButLog_enqueue h _ _) (sameButLog_enqueue h _ _)) h

theorem sameButLog_keyTransition (u : Byte) (pressed : Bool) :
    SameButLog (keyTransition u pressed s) (keyTransition u pressed t) := by
  obtain ⟨l, rfl⟩ := sameButLog_iff.mp h
  cases hon : s.k.enabled with
  | false => rw [keyTransition_of_disabled hon, keyTransition_of_disabled (by exact hon)]; exact h
  | true =>
    cases pressed with
    | true =>
      rw [keyTransition_press hon, keyTransition_press (by exact hon)]
      exact sameButLog_setK (sameButLog_enqueue h _ _) _
    | false =>
      rw [keyTransition_release hon, keyTransition_release (by exact hon)]
      exact sameButLog_ite Iff.rfl (sameButLog_setK (sameButLog_enqueue h _ _) _) (sameButLog_enqueue h _ _)

theorem sameButLog_onKeyTransition (u : Byte) (pressed : Bool) :
    SameButLog (onKeyTransition u pressed s) (onKeyTransition u pressed t) := by
  unfold onKeyTransition
  rw [sameButLog_cfg h]
  exact sameButLog_ite Iff.rfl (sameButLog_modifierTransition h u pressed) <|
    sameButLog_ite Iff.rfl (sameButLog_pauseTransition h pressed) <|
    sameButLog_ite Iff.rfl (sameButLog_raise h _ _) (sameButLog_keyTransition h u pressed)

theorem sameButLog_onMovement (buttons : Byte) (dx dy wheel : Int) :
    SameButLog (onMovement buttons dx dy wheel s) (onMovement buttons dx dy wheel t) := by
  obtain ⟨l, rfl⟩ := sameButLog_iff.mp h
  rfl

end Engines

theorem sameButLog_transitions (cs : List (Byte × Bool)) {s t : State} (h : SameButLog s t) :
    SameButLog (transitions cs s) (transitions cs t) := by
  induction cs generalizing s t with
  | nil => exact h
  | cons c cs ih => exact ih (sameButLog_onKeyTransition h c.1 c.2)

include h

/-! ## The timer steps -/

theorem together_kbdRepeatFire : Together (exec .kbdRepeatFire s) (exec .kbdRepeatFire t) := by
  obtain ⟨l, rfl⟩ := sameButLog_iff.mp h
  obtain hwait | ⟨d, ht, hd⟩ := waiting_or_due s.k.repeatTimer s.now
  · rw [exec_kbdRepeatFire_of_waiting hwait, exec_kbdRepeatFire_of_waiting (by exact hwait)]
    exact together_next h
  · rw [exec_kbdRepeatFire_of_due ht hd, exec_kbdRepeatFire_of_due (by exact ht) (by exact hd)]
    exact together_next (sameButLog_setK (sameButLog_ite Iff.rfl (sameButLog_enqueue h _ _) h) _)

theorem together_kbdResetDone (d : Nat) : Together (exec (.kbdResetDone d) s) (exec (.kbdResetDone d) t) := by
  obtain ⟨l, rfl⟩ := sameButLog_iff.mp h
  obtain hwait | ⟨hmem, hdue⟩ := resetDone_waiting_or_due d s.now s.k.resetPending
  · rw [exec_kbdResetDone_of_waiting hwait, exec_kbdResetDone_of_waiting (by exact hwait)]
    exact together_next h
  · rw [exec_kbdResetDone_of_due hmem hdue, exec_kbdResetDone_of_due (by exact hmem) (by exact hdue)]
    exact together_next (sameButLog_setK (sameButLog_enqueue h _ _) _)

theorem together_ledSync : Together (exec .ledSync s) (exec .ledSync t) := by
  obtain ⟨l, rfl⟩ := sameButLog_iff.mp h
  cases hpending : s.k.ledSyncPending with
  | false =>
    rw [exec_ledSync_of_idle hpending, exec_ledSync_of_idle (by exact hpending)]
    exact together_next h
  | true =>
    rw [exec_ledSync_of_pending hpending, exec_ledSync_of_pending (by exact hpending)]
    exact together_next (sameButLog_setK (sameButLog_emits h _) _)

theorem together_mouseEmitFire : Together (exec .mouseEmitFire s) (exec .mouseEmitFire t) := by
  obtain ⟨l, rfl⟩ := sameButLog_iff.mp h
  obtain hwait | ⟨d, ht, hd⟩ := waiting_or_due s.m.emitTimer s.now
  · rw [exec_mouseEmitFire_of_waiting hwait, exec_mouseEmitFire_of_waiting (by exact hwait)]
    exact together_next h
  · rw [exec_mouseEmitFire_of_due ht hd, exec_mouseEmitFire_of_due (by exact ht) (by exact hd)]
    exact together_next (sameButLog_ite Iff.rfl (sameButLog_setM h _)
      (sameButLog_setM (sameButLog_enqueue h _ _) _))

theorem together_mouseResetDone (d : Nat) :
    Together (exec (.mouseResetDone d) s) (exec (.mouseResetDone d) t) := by
  obtain ⟨l, rfl⟩ := sameButLog_iff.mp h
  obtain hwait | ⟨hmem, hdue⟩ := resetDone_waiting_or_due d s.now s.m.resetPending
  · rw [exec_mouseResetDone_of_waiting hwait, exec_mouseResetDone_of_waiting (by exact hwait)]
    exact together_next h
  · rw [exec_mouseResetDone_of_due hmem hdue, exec_mouseResetDone_of_due (by exact hmem) (by exact hdue)]
    exact together_next (sameButLog_setM (sameButLog_enqueue h _ _) _)

/-! ## Polls -/

theorem sameButLog_pollRecover (p : Port) : SameButLog (pollRecover p s) (pollRecover p t) := by
  unfold pollRecover
  rw [sameButLog_t h p]
  exact sameButLog_ite Iff.rfl (sameButLog_raise (sameButLog_setT h p _) _ _) h

theorem sameButLog_sendByte (p : Port) (b : Byte) : SameButLog (s.sendByte p b) (t.sendByte p b) :=
  sameButLog_emits h [.phyTx p (encodeFrame b)]

theorem sameButLog_pollTransmit (p : Port) (lineIdle : Bool) :
    SameButLog (pollTransmit p lineIdle s) (pollTransmit p lineIdle t) := by
  unfold pollTransmit
  rw [sameButLog_t h p, sameButLog_now h]
  refine sameButLog_ite Iff.rfl ?_ h
  cases (t.t p).queue with
  | nil => exact h
  | cons pk q =>
    dsimp only
    cases pk[(t.t p).bytesSent]? with
    | none =>
      unfold popHead
      rw [sameButLog_t h p]
      exact sameButLog_setT h p _
    | some b =>
      unfold sendNext
      rw [sameButLog_t h p, sameButLog_now h, sameButLog_cfg h]
      exact sameButLog_sendByte (sameButLog_setT h p _) p b

theorem sameButLog_hostWrites (p : Port) (i : Instr) : SameButLog (hostWrites p i s) (hostWrites p i t) := by
  obtain ⟨l, rfl⟩ := sameButLog_iff.mp h
  cases p with
  | kbd => cases i <;> rfl
  | mouse => cases i <;> rfl

theorem sameButLog_takeHostByte (p : Port) (b : Byte) (pk : List Byte) :
    SameButLog (takeHostByte p b (enqueue p pk) s) (takeHostByte p b (enqueue p pk) t) := by
  have hreply : SameButLog (enqueue p pk (s.flush p)) (enqueue p pk (t.flush p)) := by
    unfold State.flush
    rw [sameButLog_t h p]
    exact sameButLog_enqueue (sameButLog_setT h p _) p pk
  unfold takeHostByte State.setLastRx
  rw [sameButLog_t hreply p]
  exact sameButLog_setT hreply p _

theorem together_decodeWire (p : Port) (prev : Byte) (raw : Frame) :
    Together (exec (decodeWire p prev raw) s) (exec (decodeWire p prev raw) t) := by
  unfold decodeWire
  dsimp only
  split_ifs
  · by_cases hb : (decodeFrame raw).1 = 0xFE#8
    · rw [hb, decodeHostByte_resend, exec_hostResend, exec_hostResend, sameButLog_t h p]
      exact together_next (sameButLog_raise (sameButLog_sendByte h p _) _ _)
    · have hcommand := hostCommand_decodeHostByte p prev hb
      rw [hcommand.exec_eq, hcommand.exec_eq, hostReply_congr (sameButLog_cfg h) (sameButLog_m h)]
      exact together_next (sameButLog_takeHostByte (sameButLog_hostWrites h p _) p _ _)
  · rw [exec_hostByteParityError, exec_hostByteParityError]
    exact together_next (sameButLog_raise (sameButLog_sendByte h p _) _ _)

theorem together_poll (p : Port) (lineIdle : Bool) :
    Together (exec (.poll p lineIdle) s) (exec (.poll p lineIdle) t) := by
  have hafter : SameButLog (transmitted p lineIdle s) (transmitted p lineIdle t) :=
    sameButLog_pollTransmit (sameButLog_pollRecover h p) p lineIdle
  have hrx := sameButLog_rx h p
  cases hs : s.rx p with
  | nil =>
    rw [exec_poll_of_rx_nil lineIdle hs, exec_poll_of_rx_nil lineIdle (hrx.symm.trans hs)]
    exact together_next hafter
  | cons raw more =>
    rw [exec_poll_of_rx_cons lineIdle hs, exec_poll_of_rx_cons lineIdle (hrx.symm.trans hs), sameButLog_t h p]
    exact together_decodeWire (sameButLog_setRx hafter p more) p _ raw

/-! ## USB events -/

theorem sameButLog_of_parser {x y : State} (hx : ParserStep s x) (hy : ParserStep t y)
    (hparser : x.parser = y.parser) : SameButLog x y := by
  obtain ⟨l, rfl⟩ := sameButLog_iff.mp h
  rw [hx, hy, hparser]
  rfl

theorem sameButLog_parse (desc : List Byte) : SameButLog (parse desc s) (parse desc t) :=
  sameButLog_of_parser h (parse_parserStep desc s) (parse_parserStep desc t) (parse_parser_congr desc s t)

theorem sameButLog_requestReport (i : Nat) : SameButLog (requestReport i s) (requestReport i t) :=
  sameButLog_emits h [.usbRequestReport i]

theorem together_usbMount (addr itf proto : Byte) (desc : List Byte) :
    Together (exec (.usbMount addr itf proto desc) s) (exec (.usbMount addr itf proto desc) t) := by
  have hparse := sameButLog_parse h desc
  change Together (execUsbMount addr itf proto desc s) (execUsbMount addr itf proto desc t)
  unfold execUsbMount
  rw [sameButLog_dev h]
  cases mountSlot addr itf t.dev with
  | none => exact together_next (sameButLog_raise h _ _)
  | some i =>
    dsimp only
    unfold State.setDevAt
    rw [parse_parser_congr desc s t, State.setParser_dev, State.setParser_dev, sameButLog_dev hparse]
    exact together_next (sameButLog_requestReport (sameButLog_setDev (sameButLog_setParser hparse _) _) i)

theorem together_usbUnmount (addr itf : Byte) :
    Together (exec (.usbUnmount addr itf) s) (exec (.usbUnmount addr itf) t) := by
  change Together (execUsbUnmount addr itf s) (execUsbUnmount addr itf t)
  unfold execUsbUnmount State.setDevAt State.devAt
  rw [sameButLog_dev h]
  cases findInstance addr itf t.dev with
  | none => exact together_next h
  | some i => exact together_next (sameButLog_setDev h _)

theorem sameButLog_keyboardReport (i : Nat) (r : KeyReport) :
    SameButLog (keyboardReport i r s) (keyboardReport i r t) := by
  refine sameButLog_ite Iff.rfl (sameButLog_raise h _ _) ?_
  rw [applyKeyboard_eq, applyKeyboard_eq]
  unfold State.devAt
  rw [sameButLog_dev h]
  have hkeys := sameButLog_transitions (keyChanges (t.dev.getD i HidInstance.free) r) h
  dsimp only
  rw [sameButLog_dev hkeys]
  exact sameButLog_setDev hkeys _

theorem sameButLog_route (i : Nat) (rd : Option Report) (payload : List Byte) :
    SameButLog (route i rd payload s) (route i rd payload t) := by
  cases rd with
  | some rd =>
    exact sameButLog_ite Iff.rfl (sameButLog_keyboardReport h i _) <|
      sameButLog_ite Iff.rfl (sameButLog_onMovement h _ _ _ _) (sameButLog_raise h _ _)
  | none =>
    unfold route State.devAt
    rw [sameButLog_dev h]
    exact sameButLog_ite Iff.rfl (sameButLog_keyboardReport h i _) <|
      sameButLog_ite Iff.rfl (sameButLog_onMovement h _ _ _ _) (sameButLog_raise h _ _)

theorem together_usbReport (addr itf : Byte) (rep : List Byte) :
    Together (exec (.usbReport addr itf rep) s) (exec (.usbReport addr itf rep) t) := by
  change Together (execUsbReport addr itf rep s) (execUsbReport addr itf rep t)
  unfold execUsbReport State.devAt
  rw [sameButLog_dev h]
  cases findInstance addr itf t.dev with
  | none => exact together_next (sameButLog_raise h _ _)
  | some i =>
    dsimp only
    cases selectReport (t.dev.getD i HidInstance.free) rep with
    | unmatched rid => exact together_next (sameButLog_requestReport (sameButLog_raise h _ _) i)
    | selected rd payload => exact together_next (sameButLog_requestReport (sameButLog_route h i rd payload) i)

/-! ## Every step -/

theorem sameButLog_runItem (i : Instr) : SameButLog (runItem i s) (runItem i t) :=
  sameButLog_of_parser h (runItem_frame i s) (runItem_frame i t)
    (runItem_parser_congr i s t (sameButLog_field h State.parser fun _ => rfl))

omit h in
theorem fetchItem_admits {bytes : List Byte} {i : Instr} {n : Nat} (h : fetchItem bytes = some (i, n)) :
    i.admits .descriptor = true := by
  unfold fetchItem at h
  split at h
  · cases h
  · cases h
    exact decodeItem_admits _ _ _ ‹_›

theorem together_item (bytes : List Byte) : Together (runEvent (.item bytes) s) (runEvent (.item bytes) t) := by
  unfold runEvent
  dsimp only
  cases hfetch : fetchItem bytes with
  | none => exact together_next (sameButLog_raise h _ _)
  | some r =>
    obtain ⟨i, n⟩ := r
    have hadmits := fetchItem_admits hfetch
    dsimp only
    rw [exec_item_next i s hadmits, exec_item_next i t hadmits]
    have hitem := sameButLog_runItem h i
    exact together_next (congrArg (fun x : State => advancePos n x) hitem)

theorem together_runEvent (e : Event) : Together (runEvent e s) (runEvent e t) := by
  cases e with
  | advance us => exact together_next (congrArg (fun x : State => advanceTime us x) h)
  | powerOn => exact together_next (congrArg (fun x : State => powerCycle x) h)
  | codec raw => exact together_next (congrArg (fun x : State => x.setCodec (some (codecResult raw))) h)
  | item bytes => exact together_item h bytes
  | usbMount addr itf proto desc => exact together_usbMount h addr itf proto desc
  | usbReport addr itf rep => exact together_usbReport h addr itf rep
  | usbUnmount addr itf => exact together_usbUnmount h addr itf
  | enqueue p bytes => exact together_next (sameButLog_enqueue h p bytes)
  | poll p lineIdle => exact together_poll h p lineIdle
  | phyRx p raw =>
    change Together (exec (.phyRx p raw) s) (exec (.phyRx p raw) t)
    rw [exec_phyRx, exec_phyRx, sameButLog_rx h p]
    exact together_next (sameButLog_setRx h p _)
  | phyTxFail p =>
    change Together (exec (.phyTxFail p) s) (exec (.phyTxFail p) t)
    rw [exec_phyTxFail, exec_phyTxFail, sameButLog_t h p]
    exact together_next (sameButLog_setT h p _)
  | onKeyTransition u pressed => exact together_next (sameButLog_onKeyTransition h u pressed)
  | onMovement buttons dx dy wheel => exact together_next (sameButLog_onMovement h buttons dx dy wheel)
  | kbdRepeatFire => exact together_kbdRepeatFire h
  | kbdResetDone d => exact together_kbdResetDone h d
  | ledSync => exact together_ledSync h
  | mouseEmitFire => exact together_mouseEmitFire h
  | mouseResetDone d => exact together_mouseResetDone h d

omit h in
/-- Settles O59: the same agenda, and its first event does the same but for the log. -/
theorem logIsNeverRead : Obligations.LogIsNeverRead := by
  intro s t h
  have hagenda := sameButLog_agenda h
  cases hs : s.agenda with
  | nil => exact ⟨s, t, step_of_empty hs, step_of_empty (hagenda.symm.trans hs), h⟩
  | cons e rest =>
    rw [step_of_event hs, step_of_event (hagenda.symm.trans hs)]
    exact together_runEvent (sameButLog_setAgenda h rest) e

end Sys2Proof.Proofs
end

section
/-! What a step runs (R140, R234), what each port's side leaves of the other (R35, R238), and power-on (R551). -/

namespace Sys2Proof.Proofs

open Sys2Proof Sys2Proof.Machine

/-! ## What a step runs -/

theorem step_of_poll {s : State} {rest : List Event} {p : Port} {raw : Frame} {more : List Frame} (lineIdle : Bool)
    (hagenda : s.agenda = .poll p lineIdle :: rest) (hrx : s.rx p = raw :: more) :
    step s = exec (decodeWire p (s.t p).lastRx raw) ((transmitted p lineIdle (s.setAgenda rest)).setRx p more) := by
  have hpoll := exec_poll_of_rx_cons (s := s.setAgenda rest) lineIdle ((State.setAgenda_rx s rest p).trans hrx)
  rw [State.setAgenda_t] at hpoll
  exact (step_of_event hagenda).trans hpoll

theorem step_of_item {s : State} {rest : List Event} {bytes more : List Byte} {i : Instr}
    (hagenda : s.agenda = .item bytes :: rest) (hdecode : decodeItem bytes = .ok (i, more)) :
    exec i (s.setAgenda rest) = .next (runItem i (s.setAgenda rest))
      ∧ step s = .next (advancePos (bytes.length - more.length) (runItem i (s.setAgenda rest))) := by
  have hexec := exec_item_next i (s.setAgenda rest) (decodeItem_admits _ _ _ hdecode)
  refine ⟨hexec, (step_of_event hagenda).trans ?_⟩
  simp only [runEvent, fetchItem, hdecode, hexec, afterItem]

/-- Settles O8: a poll and an item by their lemmas, every other event by `runEvent` itself. -/
theorem stepRunsDecodedInstruction : Obligations.StepRunsDecodedInstruction := by
  refine fun s rest => ⟨step_of_empty, fun p lineIdle raw more => step_of_poll lineIdle, fun _ => step_of_event,
    fun bytes i more hagenda hdecode => ?item, fun e i hagenda hmem => ?timers, fun _ _ _ _ => step_of_event,
    fun _ _ _ => step_of_event, fun _ _ => step_of_event, fun _ _ => step_of_event, fun _ _ => step_of_event,
    fun _ _ => step_of_event, fun _ => step_of_event, fun _ _ => step_of_event, fun _ _ _ _ => step_of_event,
    fun _ => step_of_event, fun _ => step_of_event⟩
  case item =>
    obtain ⟨hexec, hstep⟩ := step_of_item hagenda hdecode
    exact ⟨_, hexec, hstep⟩
  case timers =>
    rw [step_of_event hagenda]
    simp only [List.mem_cons, List.not_mem_nil, or_false, Prod.mk.injEq] at hmem
    obtain ⟨rfl, rfl⟩ | ⟨rfl, rfl⟩ | ⟨rfl, rfl⟩ := hmem
    · rfl
    · rfl
    · rfl

/-! ## The keyboard's side -/

/-- Port 1, its engine and the device table are as they were. -/
structure KeyboardSide (s t : State) : Prop where
  t1 : t.t1 = s.t1
  rx1 : t.rx1 = s.rx1
  m : t.m = s.m
  dev : t.dev = s.dev

theorem KeyboardSide.refl (s : State) : KeyboardSide s s := ⟨rfl, rfl, rfl, rfl⟩

theorem KeyboardSide.trans {s t u : State} (h : KeyboardSide s t) (g : KeyboardSide t u) : KeyboardSide s u :=
  ⟨g.t1.trans h.t1, g.rx1.trans h.rx1, g.m.trans h.m, g.dev.trans h.dev⟩

theorem keyboardSide_enqueue (bytes : List Byte) (s : State) : KeyboardSide s (enqueue .kbd bytes s) := by
  constructor <;> simp

theorem keyboardSide_transmitted (lineIdle : Bool) (s : State) : KeyboardSide s (transmitted .kbd lineIdle s) := by
  constructor <;> simp

theorem keyboardSide_setRx (s : State) (f : List Frame) : KeyboardSide s (s.setRx .kbd f) := ⟨rfl, rfl, rfl, rfl⟩

theorem keyboardSide_setK (s : State) (k : Keyboard) : KeyboardSide s (s.setK k) := ⟨rfl, rfl, rfl, rfl⟩

theorem keyboardSide_kbdWrites (i : Instr) (s : State) : KeyboardSide s (kbdWrites i s) := by
  rw [kbdWrites_frame]
  exact ⟨rfl, rfl, rfl, rfl⟩

theorem keyboardSide_takeHostByte (b : Byte) (pk : List Byte) (s : State) :
    KeyboardSide s (takeHostByte .kbd b (enqueue .kbd pk) s) := by
  constructor <;> simp [takeHostByte]

theorem keyboardSide_received {i : Instr} {x t : State} (h : Received .kbd i x t) : KeyboardSide x t := by
  cases h with
  | parityError raw | resend => exact ⟨rfl, rfl, rfl, rfl⟩
  | command b _ _ => exact (keyboardSide_kbdWrites i x).trans (keyboardSide_takeHostByte b _ _)

theorem keyboardSide_of_poll {lineIdle : Bool} {s t : State} (h : exec (.poll .kbd lineIdle) s = .next t) :
    KeyboardSide s t := by
  obtain ⟨_, hexec, ⟨-, rfl⟩ | ⟨raw, more, -, hreceived⟩⟩ := exec_poll_cases .kbd lineIdle s
  · cases hexec.symm.trans h
    exact keyboardSide_transmitted lineIdle s
  · cases hexec.symm.trans h
    exact ((keyboardSide_transmitted lineIdle s).trans (keyboardSide_setRx _ more)).trans
      (keyboardSide_received hreceived)

theorem keyboardSide_of_kbdRepeatFire {s t : State} (h : exec .kbdRepeatFire s = .next t) : KeyboardSide s t := by
  obtain hwait | ⟨d, ht, hd⟩ := waiting_or_due s.k.repeatTimer s.now
  · cases (exec_kbdRepeatFire_of_waiting hwait).symm.trans h
    exact .refl s
  · cases (exec_kbdRepeatFire_of_due ht hd).symm.trans h
    exact (ite_cases (P := KeyboardSide s) (fun _ => keyboardSide_enqueue _ s) fun _ => .refl s).trans
      (keyboardSide_setK _ _)

theorem keyboardSide_of_ledSync {s t : State} (h : exec .ledSync s = .next t) : KeyboardSide s t := by
  cases hpending : s.k.ledSyncPending with
  | false =>
    cases (exec_ledSync_of_idle hpending).symm.trans h
    exact .refl s
  | true =>
    cases (exec_ledSync_of_pending hpending).symm.trans h
    exact ⟨rfl, rfl, rfl, rfl⟩

theorem keyboardSide_onKeyTransition (u : Byte) (pressed : Bool) (s : State) :
    KeyboardSide s (onKeyTransition u pressed s) := by
  rw [(onKeyTransition_keyStep u pressed s).frame]
  exact ⟨rfl, rfl, rfl, rfl⟩

theorem keyboardSide_of_kbdResetDone {d : Nat} {s t : State} (h : exec (.kbdResetDone d) s = .next t) :
    KeyboardSide s t := by
  obtain hwait | ⟨hmem, hdue⟩ := resetDone_waiting_or_due d s.now s.k.resetPending
  · cases (exec_kbdResetDone_of_waiting hwait).symm.trans h
    exact .refl s
  · cases (exec_kbdResetDone_of_due hmem hdue).symm.trans h
    exact (keyboardSide_enqueue _ s).trans (keyboardSide_setK _ _)

/-! ## The mouse's side -/

/-- Port 0, its engine and the device table are as they were. -/
structure MouseSide (s t : State) : Prop where
  t0 : t.t0 = s.t0
  rx0 : t.rx0 = s.rx0
  k : t.k = s.k
  dev : t.dev = s.dev

theorem MouseSide.refl (s : State) : MouseSide s s := ⟨rfl, rfl, rfl, rfl⟩

theorem MouseSide.trans {s t u : State} (h : MouseSide s t) (g : MouseSide t u) : MouseSide s u :=
  ⟨g.t0.trans h.t0, g.rx0.trans h.rx0, g.k.trans h.k, g.dev.trans h.dev⟩

theorem mouseSide_enqueue (bytes : List Byte) (s : State) : MouseSide s (enqueue .mouse bytes s) := by
  constructor <;> simp

theorem mouseSide_transmitted (lineIdle : Bool) (s : State) : MouseSide s (transmitted .mouse lineIdle s) := by
  constructor <;> simp

theorem mouseSide_setRx (s : State) (f : List Frame) : MouseSide s (s.setRx .mouse f) := ⟨rfl, rfl, rfl, rfl⟩

theorem mouseSide_setM (s : State) (m : Mouse) : MouseSide s (s.setM m) := ⟨rfl, rfl, rfl, rfl⟩

theorem mouseSide_mouseWrites (i : Instr) (s : State) : MouseSide s (mouseWrites i s) := by
  rw [mouseWrites_frame]
  exact ⟨rfl, rfl, rfl, rfl⟩

theorem mouseSide_takeHostByte (b : Byte) (pk : List Byte) (s : State) :
    MouseSide s (takeHostByte .mouse b (enqueue .mouse pk) s) := by
  constructor <;> simp [takeHostByte]

theorem mouseSide_received {i : Instr} {x t : State} (h : Received .mouse i x t) : MouseSide x t := by
  cases h with
  | parityError raw | resend => exact ⟨rfl, rfl, rfl, rfl⟩
  | command b _ _ => exact (mouseSide_mouseWrites i x).trans (mouseSide_takeHostByte b _ _)

theorem mouseSide_of_poll {lineIdle : Bool} {s t : State} (h : exec (.poll .mouse lineIdle) s = .next t) :
    MouseSide s t := by
  obtain ⟨_, hexec, ⟨-, rfl⟩ | ⟨raw, more, -, hreceived⟩⟩ := exec_poll_cases .mouse lineIdle s
  · cases hexec.symm.trans h
    exact mouseSide_transmitted lineIdle s
  · cases hexec.symm.trans h
    exact ((mouseSide_transmitted lineIdle s).trans (mouseSide_setRx _ more)).trans (mouseSide_received hreceived)

theorem mouseSide_of_mouseEmitFire {s t : State} (h : exec .mouseEmitFire s = .next t) : MouseSide s t := by
  obtain hwait | ⟨d, ht, hd⟩ := waiting_or_due s.m.emitTimer s.now
  · cases (exec_mouseEmitFire_of_waiting hwait).symm.trans h
    exact .refl s
  · cases (exec_mouseEmitFire_of_due ht hd).symm.trans h
    exact ite_cases (fun _ => mouseSide_setM s _) fun _ => (mouseSide_enqueue _ s).trans (mouseSide_setM _ _)

theorem mouseSide_of_mouseResetDone {d : Nat} {s t : State} (h : exec (.mouseResetDone d) s = .next t) :
    MouseSide s t := by
  obtain hwait | ⟨hmem, hdue⟩ := resetDone_waiting_or_due d s.now s.m.resetPending
  · cases (exec_mouseResetDone_of_waiting hwait).symm.trans h
    exact .refl s
  · cases (exec_mouseResetDone_of_due hmem hdue).symm.trans h
    exact (mouseSide_enqueue _ s).trans (mouseSide_setM _ _)

/-- Settles O23: each instruction stays on its side. -/
theorem portsAreIndependent : Obligations.PortsAreIndependent := by
  have hkbd {s t : State} (h : KeyboardSide s t) : t.t1 = s.t1 ∧ t.rx1 = s.rx1 ∧ t.m = s.m ∧ t.dev = s.dev :=
    ⟨h.t1, h.rx1, h.m, h.dev⟩
  have hmouse {s t : State} (h : MouseSide s t) : t.t0 = s.t0 ∧ t.rx0 = s.rx0 ∧ t.k = s.k ∧ t.dev = s.dev :=
    ⟨h.t0, h.rx0, h.k, h.dev⟩
  refine fun s t => ⟨fun i hi h => ?kbd, fun u b d h => ?keys, fun i hi h => ?mouse, fun b x y w d h => ?moves⟩
  case kbd =>
    obtain rfl | rfl | rfl | rfl :
        i = .kbdRepeatFire ∨ i = .ledSync ∨ i = .poll .kbd true ∨ i = .poll .kbd false := by simpa using hi
    · exact hkbd (keyboardSide_of_kbdRepeatFire h)
    · exact hkbd (keyboardSide_of_ledSync h)
    · exact hkbd (keyboardSide_of_poll h)
    · exact hkbd (keyboardSide_of_poll h)
  case keys =>
    obtain h | h := h
    · cases h
      exact hkbd (keyboardSide_onKeyTransition u b s)
    · exact hkbd (keyboardSide_of_kbdResetDone h)
  case mouse =>
    obtain rfl | rfl | rfl : i = .mouseEmitFire ∨ i = .poll .mouse true ∨ i = .poll .mouse false := by
      simpa using hi
    · exact hmouse (mouseSide_of_mouseEmitFire h)
    · exact hmouse (mouseSide_of_poll h)
    · exact hmouse (mouseSide_of_poll h)
  case moves =>
    obtain h | h := h
    · cases h
      exact hmouse (mouseSide_setM s _)
    · exact hmouse (mouseSide_of_mouseResetDone h)

/-! ## Power-on -/

theorem typematicInterval_default (i : Fin 32) : defaultParams.typematicIntervalUs.get i
    = (20000000 + tenthsOfCps.get i) / (2 * tenthsOfCps.get i) := by
  revert i
  decide +kernel

/-- The bits of the LED table are those of the host's byte in the order of R442. -/
theorem ledTable_default (p : Fin 8) : let b : Byte := BitVec.ofNat 8 p.val
    (defaultParams.ledTable.get p).getLsbD 0 = b.getLsbD 1 ∧ (defaultParams.ledTable.get p).getLsbD 1 = b.getLsbD 2
    ∧ (defaultParams.ledTable.get p).getLsbD 2 = b.getLsbD 0
    ∧ defaultParams.ledTable.get p &&& 0xF8#8 = 0x00#8 := by
  revert p
  decide +kernel

theorem modTable_default (n : Fin 8) :
    defaultParams.modTable.get n = ⟨decide (n.val ∈ [3, 4, 6, 7]), modifierCodes.get n⟩ := by
  revert n
  decide +kernel

theorem sc2Table_default (u : Byte) : defaultParams.sc2Table.lookup u =
    if 0x04 ≤ u.toNat ∧ u.toNat ≤ 0x67 ∧ u ≠ 0x48#8 then
      some ⟨decide (u.toNat ∈ extendedUsages), BitVec.ofNat 8 (set2Codes.getD (u.toNat - 0x04) 0)⟩
    else none := by
  revert u
  decide +kernel

/-- Settles O55: R551's fields by definition, R6's tables entry by entry. -/
theorem powerOnState : Obligations.PowerOnState := by
  refine ⟨fun c => ⟨rfl, rfl, rfl, rfl, rfl, rfl, rfl, rfl, rfl, List.length_replicate, fun d hd => ?free⟩,
    ⟨rfl, rfl, rfl⟩, ⟨rfl, rfl, rfl, rfl, rfl, rfl, rfl, typematicInterval_default, rfl, ledTable_default,
      modTable_default, by decide +kernel, by decide +kernel, by decide +kernel, sc2Table_default⟩,
    fun s rest => step_of_powerOn⟩
  case free =>
    rw [List.eq_of_mem_replicate hd]
    rfl

end Sys2Proof.Proofs
end

section
/-! The typematic schedule (R356, R357), movement packets (R413 to R417) and a keyboard report that comes twice
(R332). -/

namespace Sys2Proof.Proofs

open Sys2Proof Sys2Proof.Machine

/-! ## The typematic schedule -/

/-- A key whose make sequence is `make` repeats: the next repeat is due at d, `interval` after the last. -/
structure Repeating (make : List Byte) (interval d : Nat) (s : State) : Prop where
  enabled : s.k.enabled = true
  timer : s.k.repeatTimer = some d
  interval_eq : s.k.intervalUs = interval
  make_eq : makeSeq s.cfg s.k.repeatKey = make

theorem makeSeq_bounds {c : Params} {u : Byte} {e : KeyCode} (h : keyEntry c u = some e) :
    makeSeq c u ≠ [] ∧ (makeSeq c u).length ≤ packetMax := by
  rw [makeSeq_of_entry h]
  cases e.ext <;> simp [packetMax]

/-- Room for n more packets in port 0's queue. -/
def Room (n : Nat) (s : State) : Prop := s.t0.queue.length + n ≤ s.cfg.queueCap

theorem enqueue_kbd_of_room {bytes : List Byte} {s : State} {n : Nat} (hne : bytes ≠ [])
    (hmax : bytes.length ≤ packetMax) (hroom : Room (n + 1) s) :
    (enqueue .kbd bytes s).t0.queue = s.t0.queue ++ [bytes] := by
  unfold Room at hroom
  rw [enqueue_room .kbd bytes s hne hmax (by simp only [State.t_kbd]; omega)]
  rfl

/-- A due repeat queues the make sequence again and re-arms one interval later. -/
theorem exec_kbdRepeatFire_repeating {make : List Byte} {interval d n : Nat} {s : State} (hne : make ≠ [])
    (hmax : make.length ≤ packetMax) (h : Repeating make interval d s) (hdue : d ≤ s.now)
    (hroom : Room (n + 1) s) : ∃ t, exec .kbdRepeatFire s = .next t ∧ Repeating make interval (d + interval) t
      ∧ t.t0.queue = s.t0.queue ++ [make] ∧ t.now = s.now ∧ Room n t := by
  have hqueue := enqueue_kbd_of_room hne hmax hroom
  refine ⟨_, exec_kbdRepeatFire_of_due h.timer hdue, ?_, ?_⟩
  · rw [if_pos h.enabled]
    exact ⟨h.enabled, by rw [← h.interval_eq]; rfl, h.interval_eq, by simpa using h.make_eq⟩
  · rw [if_pos h.enabled, h.make_eq]
    unfold Room at hroom ⊢
    refine ⟨hqueue, enqueue_now _ _ _, ?_⟩
    simp only [State.setK_t0, hqueue, List.length_append, List.length_singleton, State.setK_cfg, enqueue_cfg]
    omega

/-- n due repeats queue the make sequence n times. -/
theorem execAll_repeating {make : List Byte} {interval : Nat} (hne : make ≠ []) (hmax : make.length ≤ packetMax)
    (n : Nat) {d : Nat} {s : State} (h : Repeating make interval d s)
    (hdue : n ≠ 0 → d + (n - 1) * interval ≤ s.now) (hroom : Room n s) :
    ∃ t, execAll (List.replicate n .kbdRepeatFire) s = .next t ∧ Repeating make interval (d + n * interval) t
      ∧ t.t0.queue = s.t0.queue ++ List.replicate n make ∧ t.now = s.now := by
  induction n generalizing d s with
  | zero => exact ⟨s, rfl, by simpa using h, by simp, rfl⟩
  | succ n ih =>
    have hlast : d + n * interval ≤ s.now := hdue (Nat.succ_ne_zero n)
    obtain ⟨x, hexec, hx, hqueue, hnow, hmore⟩ := exec_kbdRepeatFire_repeating hne hmax h (by omega) hroom
    have hnext : n ≠ 0 → d + interval + (n - 1) * interval ≤ x.now := by
      intro hn
      obtain ⟨m, rfl⟩ := Nat.exists_eq_succ_of_ne_zero hn
      rw [hnow, Nat.succ_sub_one]
      rw [Nat.succ_mul] at hlast
      omega
    obtain ⟨t, hall, ht, htqueue, htnow⟩ := ih hx hnext hmore
    refine ⟨t, ?_, ?_, ?_, htnow.trans hnow⟩
    · rw [List.replicate_succ, execAll, hexec]
      exact hall
    · rw [Nat.succ_mul, Nat.add_comm (n * interval), ← Nat.add_assoc]
      exact ht
    · rw [htqueue, hqueue, List.append_assoc, List.replicate_succ]
      rfl

/-- A press queues the make sequence and arms the first repeat (R353). -/
theorem exec_press {s : State} {u : Byte} {e : KeyCode} {n : Nat} (hmod : ¬ (0xE0 ≤ u.toNat ∧ u.toNat ≤ 0xE7))
    (hpause : u ≠ 0x48#8) (he : s.cfg.sc2Table.lookup u = some e) (hon : s.k.enabled = true)
    (hroom : Room (n + 1) s) : ∃ t, exec (.onKeyTransition u true) s = .next t ∧ t.cfg = s.cfg
      ∧ t.k = { s.k with repeatKey := u, repeatTimer := some (s.now + s.k.delayMs * 1000) }
      ∧ t.t0.queue = s.t0.queue ++ [makeSeq s.cfg u] := by
  obtain ⟨hne, hmax⟩ := makeSeq_bounds ((keyEntry_of_key s.cfg hmod).trans he)
  refine ⟨_, exec_onKeyTransition u true s, ?_⟩
  rw [onKeyTransition_of_key hmod hpause he, keyTransition_press hon]
  exact ⟨enqueue_cfg _ _ _, rfl, enqueue_kbd_of_room hne hmax hroom⟩

/-- Settles O30: the press arms the first repeat, each repeat the next, and the last one is not due. -/
theorem typematicSchedule : Obligations.TypematicSchedule := by
  intro s u e k later hmod hpause he hon hroom first make hdue hwait
  have hentry : keyEntry s.cfg u = some e := (keyEntry_of_key s.cfg hmod).trans he
  have hmake : makeSeq s.cfg u = make := makeSeq_of_entry hentry
  obtain ⟨hne, hmax⟩ := makeSeq_bounds hentry
  rw [hmake] at hne hmax
  obtain ⟨s1, hpress, hcfg, hk, hqueue⟩ :=
    exec_press (n := k) hmod hpause he hon (by unfold Room; omega)
  rw [hmake] at hqueue
  have hrepeating : Repeating make s.k.intervalUs first { s1 with now := later } := by
    refine ⟨?_, ?_, ?_, ?_⟩ <;> simp only [hk, hcfg]
    · exact hon
    · exact rfl
    · exact hmake
  have hmore : Room k { s1 with now := later } := by
    unfold Room
    simp only [hqueue, hcfg, List.length_append, List.length_singleton]
    omega
  obtain ⟨t, hall, ht, htqueue, htnow⟩ := execAll_repeating hne hmax k hrepeating hdue hmore
  refine ⟨s1, t, hpress, hall, ?_, ht.timer, exec_kbdRepeatFire_of_waiting fun d hd => ?_⟩
  · rw [htqueue]
    simp only [hqueue, List.append_assoc, List.replicate_succ]
    rfl
  · obtain rfl := Option.some.inj (ht.timer.symm.trans hd)
    rw [htnow]
    exact hwait

/-! ## Movement packets -/

/-- What the wheel adds to a packet at the mouse's level. -/
def wheelBytes (m : Mouse) : List Byte :=
  match m.level with
  | .standard => []
  | .intelliMouse => [u8 (clampInt m.accWheel.toInt (-8) 7)]
  | .explorer => [explorerByte4 m.buttons (clampInt m.accWheel.toInt (-8) 7)]

theorem movementPacket_eq (m : Mouse) : movementPacket m =
    packetByte1 m.buttons (clampInt m.accDx.toInt (-255) 255) (-(clampInt m.accDy.toInt (-255) 255))
      :: bump (u8 (clampInt m.accDx.toInt (-255) 255)) :: bump (u8 (-(clampInt m.accDy.toInt (-255) 255)))
      :: wheelBytes m := by
  unfold movementPacket wheelBytes
  cases m.level <;> rfl

theorem wheelBytes_length_le (m : Mouse) : (wheelBytes m).length ≤ 1 := by
  unfold wheelBytes
  cases m.level <;> simp

/-- Byte 1 from the signs: three buttons, bit 3, two signs, no overflow. -/
theorem byte1_bits : ∀ (buttons : Byte) (x y : Bool),
    let b := 0x08#8 ||| (buttons &&& 0x07#8) ||| (if x then 0x10#8 else 0#8) ||| (if y then 0x20#8 else 0#8)
    (∀ i < 3, b.getLsbD i = buttons.getLsbD i) ∧ b.getLsbD 3 = true ∧ b.getLsbD 4 = x ∧ b.getLsbD 5 = y
      ∧ b.getLsbD 6 = false ∧ b.getLsbD 7 = false := by
  decide +kernel

theorem packetByte1_bits (buttons : Byte) (cx cy : Int) : let b := packetByte1 buttons cx cy
    (∀ i < 3, b.getLsbD i = buttons.getLsbD i) ∧ b.getLsbD 3 = true ∧ b.getLsbD 4 = decide (cx < 0)
      ∧ b.getLsbD 5 = decide (cy < 0) ∧ b.getLsbD 6 = false ∧ b.getLsbD 7 = false := by
  simpa only [packetByte1, decide_eq_true_eq] using byte1_bits buttons (decide (cx < 0)) (decide (cy < 0))

/-- A clamped value's byte is its value modulo 256. -/
theorem u8_toNat {x : Int} (hlow : -255 ≤ x) (hhigh : x ≤ 255) :
    ((u8 x).toNat : Int) = if x < 0 then x + 256 else x := by
  rw [u8, BitVec.toNat_ofInt]
  split_ifs <;> omega

theorem bump_toNat (b : Byte) : (bump b).toNat = if b.toNat = 170 then 171 else b.toNat := by
  unfold bump
  by_cases h : b = 0xAA#8
  · subst h
    rfl
  · have hne : b.toNat ≠ 170 := fun heq => h (BitVec.eq_of_toNat_eq heq)
    rw [if_neg h, if_neg hne]

/-- Sign bit and byte give the clamped value, or one more where the byte is bumped. -/
theorem nineBit_bump {x : Int} (hlow : -255 ≤ x) (hhigh : x ≤ 255) :
    nineBit (decide (x < 0)) (bump (u8 x)) = if x = 170 ∨ x = -86 then x + 1 else x := by
  have hbyte := u8_toNat hlow hhigh
  rw [nineBit, bump_toNat]
  simp only [decide_eq_true_eq]
  split_ifs at hbyte ⊢ <;> omega

theorem clampInt_eq (x lo hi : Int) : clampInt x lo hi = min (max x lo) hi := rfl

theorem u8_wheel_toInt {w : Int} (hlow : -8 ≤ w) (hhigh : w ≤ 7) : (u8 w).toInt = w :=
  BitVec.toInt_ofInt_eq_self (by decide) (by omega) (by omega)

/-- Byte 4 at level Explorer from the wheel's byte and the two buttons. -/
theorem byte4_bits : ∀ (v : Byte) (p q : Bool),
    let b := (v &&& 0x0F#8) ||| (if p then 0x10#8 else 0#8) ||| (if q then 0x20#8 else 0#8)
    b.extractLsb' 0 4 = v.extractLsb' 0 4 ∧ b.getLsbD 4 = p ∧ b.getLsbD 5 = q ∧ b.getLsbD 6 = false
      ∧ b.getLsbD 7 = false := by
  decide +kernel

theorem u8_wheel_low {w : Int} (hlow : -8 ≤ w) (hhigh : w ≤ 7) : ((u8 w).extractLsb' 0 4).toInt = w := by
  interval_cases w <;> rfl

/-- Settles O34: byte by byte, the clamps giving the ranges. -/
theorem movementPacketByRule : Obligations.MovementPacketByRule := by
  intro m cx cy cw hcx hcy hcw
  have hx : clampInt m.accDx.toInt (-255) 255 = cx := hcx.symm
  have hy : -(clampInt m.accDy.toInt (-255) 255) = cy := hcy.symm
  have hw : clampInt m.accWheel.toInt (-8) 7 = cw := hcw.symm
  obtain ⟨hbuttons, hthree, hsignx, hsigny, hsix, hseven⟩ := packetByte1_bits m.buttons cx cy
  refine ⟨_, _, _, _, movementPacket_eq m, ?_⟩
  rw [hx, hy]
  refine ⟨hbuttons, hthree, hsignx, hsigny, hsix, hseven, ?_, ?_, fun hl => ?_, fun hl => ?_, fun hl => ?_⟩
  · rw [hsignx]
    exact nineBit_bump (by omega) (by omega)
  · rw [hsigny]
    exact nineBit_bump (by omega) (by omega)
  · rw [wheelBytes, hl]
  · rw [wheelBytes, hl, hw]
    exact ⟨_, rfl, u8_wheel_toInt (by omega) (by omega)⟩
  · rw [wheelBytes, hl, hw]
    obtain ⟨hwheel, hfour, hfive, hno6, hno7⟩ := byte4_bits (u8 cw) (m.buttons.getLsbD 3) (m.buttons.getLsbD 4)
    refine ⟨_, rfl, ?_, hfour, hfive, hno6, hno7⟩
    rw [explorerByte4, hwheel]
    exact u8_wheel_low (by omega) (by omega)

/-! ## A residual leaves in full packets (R417) -/

/-- The packet's x is v, bumped where its byte would be 0xAA; its sign bit is clear. -/
def CarriesX (v : Nat) (pk : List Byte) : Prop :=
  ∃ b1 b2 tail, pk = b1 :: b2 :: tail ∧ b1.getLsbD 4 = false ∧ b2.toNat = if v = 170 then 171 else v

theorem carriesX_movementPacket {m : Mouse} {D : Nat} (hD : m.accDx.toInt = D) :
    CarriesX (min D 255) (movementPacket m) := by
  have hx : clampInt m.accDx.toInt (-255) 255 = (min D 255 : Nat) := by rw [clampInt_eq, hD]; omega
  obtain ⟨-, -, hsign, -⟩ := packetByte1_bits m.buttons (min D 255 : Nat)
    (-(clampInt m.accDy.toInt (-255) 255))
  have hbyte := u8_toNat (x := (min D 255 : Nat)) (by omega) (by omega)
  have hvalue : (u8 (min D 255 : Nat)).toNat = min D 255 := by
    rw [if_neg (by omega)] at hbyte
    omega
  refine ⟨_, _, _, movementPacket_eq m, ?_, ?_⟩
  · rw [hx, hsign]
    simp
  · rw [hx, bump_toNat, hvalue]

theorem movementPacket_length_le (m : Mouse) : (movementPacket m).length ≤ packetMax := by
  have hwheel := wheelBytes_length_le m
  rw [movementPacket_eq]
  simp only [List.length_cons, packetMax]
  omega

/-- A due tick with x left sends one packet and takes 255 off x, or all of it. -/
theorem exec_mouseEmitFire_residual {s : State} {d D : Nat} (ht : s.m.emitTimer = some d) (hdue : d ≤ s.now)
    (hD : s.m.accDx.toInt = D) (hpos : 0 < D) (hroom : s.t1.queue.length ≠ s.cfg.queueCap) :
    ∃ t, exec .mouseEmitFire s = .next t ∧ t.t1.queue = s.t1.queue ++ [movementPacket s.m]
      ∧ t.m.emitTimer = some (d + emitInterval s.m.rate) ∧ t.m.rate = s.m.rate
      ∧ t.m.accDx.toInt = (D - 255 : Nat) ∧ t.now = s.now ∧ t.cfg = s.cfg := by
  have hmoving : movementPending s.m.accDx s.m.accDy s.m.accWheel = true :=
    (movementPending_iff _ _ _).mpr (.inl fun h0 => by rw [h0] at hD; simp at hD; omega)
  have hpacket : movementPacket s.m ≠ [] := by rw [movementPacket_eq]; simp
  refine ⟨_, (exec_mouseEmitFire_of_due ht hdue).trans (congrArg _ (if_neg (by simp [hmoving]))), ?_, rfl, rfl,
    ?_, enqueue_now _ _ _, enqueue_cfg _ _ _⟩
  · rw [enqueue_room .mouse _ s hpacket (movementPacket_length_le s.m) hroom]
    rfl
  · exact (toInt_residual s.m.accDx).trans (by rw [hD]; omega)

/-- n due ticks send an x of D whole when n packets are just enough for it. -/
theorem execAll_residual (n : Nat) {s : State} {d D : Nat} (ht : s.m.emitTimer = some d)
    (hD : s.m.accDx.toInt = D) (hn : n = (D + 254) / 255) (hdue : d + n * emitInterval s.m.rate ≤ s.now)
    (hroom : s.t1.queue.length + n ≤ s.cfg.queueCap) :
    ∃ t pkts, execAll (List.replicate n .mouseEmitFire) s = .next t ∧ t.t1.queue = s.t1.queue ++ pkts
      ∧ pkts.length = n ∧ t.m.accDx.toInt = 0
      ∧ ∀ k < n, ∃ pk, pkts[k]? = some pk ∧ CarriesX (min (D - 255 * k) 255) pk := by
  induction n generalizing s d D with
  | zero => exact ⟨s, [], rfl, by simp, rfl, by omega, fun k hk => absurd hk (Nat.not_lt_zero k)⟩
  | succ n ih =>
    rw [Nat.succ_mul] at hdue
    obtain ⟨x, hexec, hqueue, htimer, hrate, hrest, hnow, hcfg⟩ :=
      exec_mouseEmitFire_residual ht (by omega) hD (by omega) (by omega)
    have hlen : x.t1.queue.length + n ≤ x.cfg.queueCap := by
      rw [hqueue, hcfg, List.length_append, List.length_singleton]
      omega
    obtain ⟨t, pkts, hall, htqueue, hcount, hzero, hcarry⟩ :=
      ih htimer hrest (by omega) (by rw [hrate, hnow]; omega) hlen
    refine ⟨t, movementPacket s.m :: pkts, ?_, ?_, by rw [List.length_cons, hcount], hzero, fun k hk => ?_⟩
    · rw [List.replicate_succ, execAll, hexec]
      exact hall
    · rw [htqueue, hqueue, List.append_assoc, List.singleton_append]
    · cases k with
      | zero => exact ⟨_, rfl, carriesX_movementPacket hD⟩
      | succ k =>
        obtain ⟨pk, hpk, hx⟩ := hcarry k (by omega)
        refine ⟨pk, hpk, ?_⟩
        rwa [show D - 255 * (k + 1) = D - 255 - 255 * k by omega]

/-- Settles O35: the k-th packet carries what is left before it, 255 at most. -/
theorem residualLeavesInFullPackets : Obligations.ResidualLeavesInFullPackets := by
  intro s d n D ht _ hD hpos hn hdue hroom
  obtain ⟨t, pkts, hall, hqueue, hcount, hzero, hcarry⟩ := execAll_residual n ht hD hn hdue hroom
  refine ⟨t, pkts, hall, hqueue, hcount, BitVec.eq_of_toInt_eq (by rw [hzero]; rfl), fun k hk => ?_⟩
  obtain ⟨pk, hpk, b1, b2, tail, rfl, hsign, hvalue⟩ := hcarry k hk
  refine ⟨b1, b2, tail, hpk, hsign, hvalue.trans ?_⟩
  by_cases hlast : k + 1 < n
  · rw [if_pos hlast, if_neg (by omega)]
    omega
  · obtain rfl : n = k + 1 := by omega
    have hrest : min (D - 255 * k) 255 = D - 255 * k := by omega
    rw [if_neg hlast, Nat.add_sub_cancel, hrest]

/-! ## The same keyboard report again (R332) -/

/-- At most six keys, none of them usage 0 (R318, R319): they fit a slot's key array. -/
structure KeysFit (arr : List Byte) : Prop where
  length_le : arr.length ≤ keyArrayMax
  ne_zero : 0x00#8 ∉ arr

theorem keysFit_arrayOf (slots : List Byte) : KeysFit (arrayOf slots) where
  length_le := List.length_take_le _ _
  ne_zero h := by
    obtain ⟨-, hkey⟩ := List.mem_filter.mp (List.mem_eraseDups.mp (List.mem_of_mem_take h))
    simp [IsArrayKey] at hkey

theorem mem_paddedArray {arr : List Byte} (h : arr.length ≤ keyArrayMax) {u : Byte} (hu : u ≠ 0x00#8) :
    u ∈ (paddedArray arr).toList ↔ u ∈ arr := by
  rw [paddedArray_eq, Vector.toList_ofFn, List.mem_ofFn, List.mem_iff_getElem?]
  constructor
  · rintro ⟨j, hj⟩
    cases hget : arr[j.val]? with
    | none => rw [hget] at hj; exact absurd hj.symm hu
    | some v => rw [hget] at hj; exact ⟨j, hget.trans (congrArg some hj)⟩
  · rintro ⟨j, hj⟩
    obtain ⟨hlt, -⟩ := List.getElem?_eq_some_iff.mp hj
    exact ⟨⟨j, hlt.trans_le h⟩, by rw [hj]; rfl⟩

/-- The slot d once it remembers the report r (R320). -/
def remembering (d : HidInstance) (r : KeyReport) : HidInstance := { d with
  modifierByte := r.mods, bootKeyArray := paddedArray r.arr, nkroBitmap := r.bitmap }

/-- It holds what the report holds. -/
theorem held_remembering {r : KeyReport} (hr : KeysFit r.arr) (d : HidInstance) (u : Byte) :
    (remembering d r).held u = r.held u := by
  rw [Bool.eq_iff_iff, hidInstance_held_iff, keyReport_held_iff]
  by_cases hu : u = 0x00#8
  · subst hu
    simp [remembering, hr.ne_zero]
  · simp only [remembering, mem_paddedArray hr.length_le hu, ne_eq, hu, not_false_eq_true, true_and]

/-- So the report makes no transition. -/
theorem keyChanges_remembering {r : KeyReport} (hr : KeysFit r.arr) (d : HidInstance) :
    keyChanges (remembering d r) r = [] := by
  unfold keyChanges
  simp only [held_remembering hr]
  simp [remembering]

theorem remembering_remembering (d : HidInstance) (r : KeyReport) :
    remembering (remembering d r) r = remembering d r := rfl

theorem selectReport_remembering (d : HidInstance) (r : KeyReport) (rep : List Byte) :
    selectReport (remembering d r) rep = selectReport d rep := rfl

/-- The slot that an address and interface find is found again when it remembers a report. -/
theorem findInstance_set {addr itf : Byte} {dev : List HidInstance} {i : Nat} {d : HidInstance}
    (h : findInstance addr itf dev = some i) (hd : dev[i]? = some d) (r : KeyReport) :
    findInstance addr itf (dev.set i (remembering d r)) = some i := by
  obtain ⟨hi, hmatch, hfirst⟩ := List.findIdx?_eq_some_iff_getElem.mp h
  obtain ⟨-, rfl⟩ := List.getElem?_eq_some_iff.mp hd
  refine List.findIdx?_eq_some_iff_getElem.mpr ⟨by simpa using hi, ?_, fun j hj => ?_⟩
  · simpa [remembering, HidInstance.matchesKey] using hmatch
  · rw [List.getElem_set_ne (by omega)]
    exact hfirst j hj

theorem applyKeyboard_dev (i : Nat) (r : KeyReport) (s : State) :
    (applyKeyboard i r s).dev = s.dev.set i (remembering (s.devAt i) r) := by
  change (transitions (keyChanges (s.devAt i) r) s).dev.set i _ = _
  rw [transitions_dev]
  rfl

/-- A report that its slot remembers changes nothing. -/
theorem applyKeyboard_of_remembering {i : Nat} {r : KeyReport} {s : State} {d : HidInstance}
    (hr : KeysFit r.arr) (h : s.dev[i]? = some (remembering d r)) : applyKeyboard i r s = s := by
  have hat : s.devAt i = remembering d r := by
    rw [State.devAt, List.getD_eq_getElem?_getD, h, Option.getD_some]
  obtain ⟨hi, hget⟩ := List.getElem?_eq_some_iff.mp h
  change (transitions (keyChanges (s.devAt i) r) s).setDevAt i (remembering (s.devAt i) r) = s
  rw [hat, keyChanges_remembering hr, remembering_remembering, ← hget]
  change s.setDev (s.dev.set i s.dev[i]) = s
  rw [List.set_getElem_self]
  rfl

/-- A report that is taken as the keyboard report r, by its descriptor or by boot protocol (R317). -/
def TakenAs (d : HidInstance) (rd : Option Report) (payload : List Byte) (r : KeyReport) : Prop :=
  (∃ rd', rd = some rd' ∧ rd'.isKeyboard = true ∧ r = keysFromFields rd' payload)
    ∨ (rd = none ∧ d.itfProtocol = 1#8 ∧ r = keysFromBoot payload)

theorem keysFit_of_takenAs {d : HidInstance} {rd : Option Report} {payload : List Byte} {r : KeyReport}
    (h : TakenAs d rd payload r) : KeysFit r.arr := by
  obtain ⟨rd', -, -, rfl⟩ | ⟨-, -, rfl⟩ := h
  · rw [keysFromFields_arr]
    exact keysFit_arrayOf _
  · rw [keysFromBoot_arr]
    exact keysFit_arrayOf _

theorem route_of_takenAs {i : Nat} {s : State} {rd : Option Report} {payload : List Byte} {r : KeyReport}
    (h : TakenAs (s.devAt i) rd payload r) (hroll : r.rollover = false) :
    route i rd payload s = applyKeyboard i r s := by
  have hreport : keyboardReport i r s = applyKeyboard i r s := if_neg (by simp [hroll])
  obtain ⟨rd', rfl, hkeyboard, rfl⟩ | ⟨rfl, hproto, rfl⟩ := h
  · rw [route_keyboard i payload s hkeyboard, hreport]
  · rw [route_bootKeyboard i payload s hproto, hreport]

/-- Settles O54: the slot remembers the report, and a remembered report has no transitions. -/
theorem repeatedKeyboardReportIsSilent : Obligations.RepeatedKeyboardReportIsSilent := by
  intro s s1 addr itf rep payload i rd r hfind hsel htaken hroll hexec
  have htaken : TakenAs (s.devAt i) rd payload r := htaken
  have hfit := keysFit_of_takenAs htaken
  rw [exec_usbReport_of_selected hfind hsel, route_of_takenAs htaken hroll] at hexec
  obtain ⟨d, hd, -⟩ := findInstance_some hfind
  obtain ⟨hi, -⟩ := List.getElem?_eq_some_iff.mp hd
  have hat : s.devAt i = d := by rw [State.devAt, List.getD_eq_getElem?_getD, hd, Option.getD_some]
  have hdev : s1.dev = s.dev.set i (remembering d r) := by
    cases hexec
    rw [← hat]
    exact applyKeyboard_dev i r s
  have hslot : s1.dev[i]? = some (remembering d r) := by rw [hdev, List.getElem?_set_self hi]
  have hat1 : s1.devAt i = remembering d r := by
    rw [State.devAt, List.getD_eq_getElem?_getD, hslot, Option.getD_some]
  have hfind1 : findInstance addr itf s1.dev = some i := by rw [hdev]; exact findInstance_set hfind hd r
  have hsel1 : selectReport (s1.devAt i) rep = .selected rd payload := by
    rw [hat1, selectReport_remembering, ← hat, hsel]
  have htaken1 : TakenAs (s1.devAt i) rd payload r := by rw [hat1]; rw [hat] at htaken; exact htaken
  rw [exec_usbReport_of_selected hfind1 hsel1, route_of_takenAs htaken1 hroll,
    applyKeyboard_of_remembering hfit hslot]

end Sys2Proof.Proofs
end
